-- ==== Sys2Proof/Word.lean ====
section
/-! DEFINITION. The word types of the core: bytes, 32-bit words and the words of type `F`. -/

namespace Sys2Proof

/-- A byte of a frame (00_scope.md R11). -/
abbrev Byte := BitVec 8

/-- A 32-bit word of the host port (30_encoding.md R85). -/
abbrev Word := BitVec 32

/-- A value of type `F`: the 32 bits in which the host port and every register hold it (30_encoding.md R85, 43_registry.md R162).
What number they stand for is the matter of `Num` (00_scope.md R13). -/
abbrev F := BitVec 32

/-- Positive zero, the `0.0` of the spec (R13): the word of zeros under every `Num` (assumption log 2). -/
def fZero : F := 0x00000000#32

end Sys2Proof
end

