-- ==== Sys2Proof/Syntax.lean ====
section
/-! DEFINITION. The instructions of the core: the 33 host commands (30_encoding.md R86) and the 32 frame kinds
(30_encoding.md R90), one constructor per row of spec/opcode_table.json. -/

namespace Sys2Proof

/-- The eight data bytes `d[0..7]` that accompany a frame (R11, R44). -/
structure Bytes8 where
  d0 : Byte
  d1 : Byte
  d2 : Byte
  d3 : Byte
  d4 : Byte
  d5 : Byte
  d6 : Byte
  d7 : Byte
  deriving DecidableEq, Repr

/-- The 32 frame kinds of R90, in the order of that rule. -/
inductive FrameKind where
  | handshake
  | getCurrent | getSpeed | getPosition
  | setCurrent | setSpeed | setPosition
  | getMode | setMode | getPower | setPower
  | getCurOutUpper | getCurOutLower | getSpdOutUpper | getSpdOutLower | getPosOutUpper | getPosOutLower
  | setCurOutUpper | setCurOutLower | setSpdOutUpper | setSpdOutLower | setPosOutUpper | setPosOutLower
  | getMotorTemp | getInverterTemp
  | getProfileSpeed | getProfileAccel | getProfileDecel
  | getTravelUpper | getTravelLower
  | getExceptions | getShutdownState
  deriving DecidableEq, Repr

/-- What a received frame carries beside its opcode byte `d[0]`: its data length code and the seven other bytes of the
receive slot (R44, R89). Bytes at index `dlc` and above are what the environment delivered beside the frame. -/
structure Answer where
  dlc : BitVec 4
  d1 : Byte
  d2 : Byte
  d3 : Byte
  d4 : Byte
  d5 : Byte
  d6 : Byte
  d7 : Byte
  deriving DecidableEq, Repr

/-- The instructions. A host command carries the fields of its 128-bit word that its row of R86 uses (`dev`, `loop`, `imm8`
and the operand words); the fields a row ignores (R85) are not carried. A frame kind carries the answer frame that the
engine decodes at `S4` (R178); the request frames of the same kinds are built by `Machine.buildFrame` (R171). -/
inductive Instr where
  | pidConfigure (dev : Byte) (loop : BitVec 2) (mode : Byte) (kp ki kd : F)
  | pidSetSetpoint (dev : Byte) (loop : BitVec 2) (value : F)
  | pidSetFeedback (dev : Byte) (loop : BitVec 2) (value : F)
  | pidSetFeedforward (dev : Byte) (loop : BitVec 2) (value : F)
  | pidSetGains (dev : Byte) (loop : BitVec 2) (kp ki kd : F)
  | pidSetLimits (dev : Byte) (loop : BitVec 2) (max min : F)
  | pidStep (dev : Byte) (loop : BitVec 2)
  | pidOutput (dev : Byte) (loop : BitVec 2)
  | pidClear (dev : Byte) (loop : BitVec 2)
  | casSetMode (dev : Byte) (opmode : Byte)
  | casCalculate (dev : Byte)
  | casSetCurrent (dev : Byte) (value : F)
  | casSetVelocity (dev : Byte) (value : F)
  | casSetPosition (dev : Byte) (value : F)
  | casSetCurrentFf (dev : Byte) (value ff : F)
  | casSetVelocityFf (dev : Byte) (value ff : F)
  | casSetPositionFf (dev : Byte) (value ff : F)
  | q24Encode (value : F)
  | q24Decode (word : Word)
  | t8Encode (value : F)
  | t8Decode (raw : BitVec 16)
  | regFind (dev : Byte)
  | regRead (dev : Byte) (field : Byte)
  | actHandshake (dev : Byte)
  | actGet (dev : Byte) (kind : Byte)
  | actSetCurrent (dev : Byte) (value : F)
  | actSetSpeed (dev : Byte) (value : F)
  | actSetPosition (dev : Byte) (value : F)
  | actSetMode (dev : Byte) (mode : Byte)
  | actSetPower (dev : Byte) (power : Byte)
  | actSetLimit (dev : Byte) (kind : Byte) (value : F)
  | actSend (dev : Byte) (dlc : Byte) (a b : Word)
  | driveCycle (dev : Byte)
  | handshake (ans : Answer)
  | getCurrent (ans : Answer)
  | getSpeed (ans : Answer)
  | getPosition (ans : Answer)
  | setCurrent (ans : Answer)
  | setSpeed (ans : Answer)
  | setPosition (ans : Answer)
  | getMode (ans : Answer)
  | setMode (ans : Answer)
  | getPower (ans : Answer)
  | setPower (ans : Answer)
  | getCurOutUpper (ans : Answer)
  | getCurOutLower (ans : Answer)
  | getSpdOutUpper (ans : Answer)
  | getSpdOutLower (ans : Answer)
  | getPosOutUpper (ans : Answer)
  | getPosOutLower (ans : Answer)
  | setCurOutUpper (ans : Answer)
  | setCurOutLower (ans : Answer)
  | setSpdOutUpper (ans : Answer)
  | setSpdOutLower (ans : Answer)
  | setPosOutUpper (ans : Answer)
  | setPosOutLower (ans : Answer)
  | getMotorTemp (ans : Answer)
  | getInverterTemp (ans : Answer)
  | getProfileSpeed (ans : Answer)
  | getProfileAccel (ans : Answer)
  | getProfileDecel (ans : Answer)
  | getTravelUpper (ans : Answer)
  | getTravelLower (ans : Answer)
  | getExceptions (ans : Answer)
  | getShutdownState (ans : Answer)
  deriving DecidableEq, Repr

end Sys2Proof
end

