-- ==== Sys2Proof/Config.lean ====
section
/-! DEFINITION. The configuration record `Cfg` (00_scope.md R9), its constraints and default, and the free values: constants
without a body that stand for the spec's draws (93_implementation_defined.md U1, U8; 00_scope.md R14). -/

namespace Sys2Proof

/-- Every frame kind, in the order of R90. -/
def FrameKind.all : List FrameKind :=
  [.handshake, .getCurrent, .getSpeed, .getPosition, .setCurrent, .setSpeed, .setPosition,
   .getMode, .setMode, .getPower, .setPower,
   .getCurOutUpper, .getCurOutLower, .getSpdOutUpper, .getSpdOutLower, .getPosOutUpper, .getPosOutLower,
   .setCurOutUpper, .setCurOutLower, .setSpdOutUpper, .setSpdOutLower, .setPosOutUpper, .setPosOutLower,
   .getMotorTemp, .getInverterTemp, .getProfileSpeed, .getProfileAccel, .getProfileDecel,
   .getTravelUpper, .getTravelLower, .getExceptions, .getShutdownState]

/-- `Num` (R9): which floating-point operations of R13 the core has. -/
inductive Num where
  /-- IEEE 754 binary32, round to nearest even (D2), written out in Machine/Float.lean. -/
  | binary32
  /-- Any other choice, by a number: total functions of their operands of which nothing is known (assumption log 2). -/
  | other (n : Nat)
  deriving DecidableEq, Repr

/-- The configuration record of R9, every parameter a field; `N_DEV` is the length of `devId`. The record is carried in `State.cfg`,
which no step changes, so that a statement over all states is a statement over all configurations (assumption log 1). -/
structure Cfg where
  /-- `DEV_ID[0 .. N_DEV-1]`. -/
  devId : List Nat
  /-- `ID_W`: the width of the wire identifier in bits. -/
  idW : Nat
  /-- `TIMEOUT_ITERS`: polls in one wait. -/
  timeoutIters : Nat
  /-- `OFFLINE_THRESHOLD`: consecutive failures that make a device Offline. -/
  offlineThreshold : Nat
  /-- `OPC`: opcode byte of each frame kind. -/
  opc : List (FrameKind × Byte)
  /-- `STATUS_OK`. -/
  statusOk : Byte
  /-- `POWER_OFF`. -/
  powerOff : Byte
  /-- `POWER_ON`. -/
  powerOn : Byte
  /-- `Num`. -/
  num : Num
  /-- `EPS_LIMIT`: the literal of the limit rule (41_pid.md R126). -/
  epsLimit : F
  deriving DecidableEq, Repr

/-- `N_DEV` (R9). -/
def Cfg.nDev (c : Cfg) : Nat := c.devId.length

/-- `OPC(kind)` (R91). -/
def Cfg.opcode (c : Cfg) (kind : FrameKind) : Byte := (c.opc.lookup kind).getD 0

/-- The kind whose opcode is `b`, or none when `b` is an unknown opcode (R91, R94). -/
def Cfg.kindOf (c : Cfg) (b : Byte) : Option FrameKind := (c.opc.find? (fun row => row.2 == b)).map Prod.fst

/-- The constraints of R9: 1 to 256 devices with distinct identifiers of `ID_W` bits, at least one poll, a threshold of at least
one, `OPC` an injective map on the 32 kinds, and distinct power bytes. That `ID_W` is at most 32 is DEDUCED from R47, which returns
an identifier zero-extended to 32 bits (assumption log 22). -/
def Cfg.wf (c : Cfg) : Bool :=
  decide (1 ≤ c.devId.length) && decide (c.devId.length ≤ 256) && decide c.devId.Nodup &&
  decide (c.idW ≤ 32) && c.devId.all (fun id => decide (id < 2 ^ c.idW)) &&
  decide (1 ≤ c.timeoutIters) && decide (1 ≤ c.offlineThreshold) &&
  decide (c.opc.map Prod.fst = FrameKind.all) && decide (c.opc.map Prod.snd).Nodup &&
  decide (c.powerOn ≠ c.powerOff)

/-- The placeholder opcode numbering of R91 (D4): not the numbering of any real actuator. -/
def defaultOpc : List (FrameKind × Byte) :=
  [(.handshake, 0x00), (.getCurrent, 0x01), (.getSpeed, 0x02), (.getPosition, 0x03),
   (.setCurrent, 0x04), (.setSpeed, 0x05), (.setPosition, 0x06),
   (.getMode, 0x07), (.setMode, 0x08), (.getPower, 0x09), (.setPower, 0x0A),
   (.getCurOutUpper, 0x10), (.getCurOutLower, 0x11), (.getSpdOutUpper, 0x12), (.getSpdOutLower, 0x13),
   (.getPosOutUpper, 0x14), (.getPosOutLower, 0x15),
   (.setCurOutUpper, 0x18), (.setCurOutLower, 0x19), (.setSpdOutUpper, 0x1A), (.setSpdOutLower, 0x1B),
   (.setPosOutUpper, 0x1C), (.setPosOutLower, 0x1D),
   (.getMotorTemp, 0x20), (.getInverterTemp, 0x21),
   (.getProfileSpeed, 0x22), (.getProfileAccel, 0x23), (.getProfileDecel, 0x24),
   (.getTravelUpper, 0x25), (.getTravelLower, 0x26), (.getExceptions, 0x27), (.getShutdownState, 0x28)]

/-- The default configuration of R9, with `TIMEOUT_ITERS` = 4, the value the spec uses for its vectors (D5; assumption log 3). -/
def Cfg.default : Cfg where
  devId := [1, 2]
  idW := 8
  timeoutIters := 4
  offlineThreshold := 3
  opc := defaultOpc
  statusOk := 0x01
  powerOff := 0x00
  powerOn := 0x01
  num := .binary32
  epsLimit := 0x3C23D70A#32

/-- Free value (U8): the sign of the NaN that the operation at a site of step `n` returns. -/
opaque Config.nanSign (n site : Nat) : Bool

/-- Free value (U8): the fraction of that NaN, less one, so that every NaN and nothing else can occur
(8388607 is 2^23 - 1). -/
opaque Config.nanFrac (n site : Nat) : Fin 8388607

/-- Free value (U1): the word `Q24Encode` gives in step `n` for an operand whose product with 2^24 is not finite. -/
opaque Config.q24Draw (n : Nat) : Word

/-- Free value (U1): the word `T8Encode` gives in step `n` for an operand whose product with 256 is not finite. -/
opaque Config.t8Draw (n : Nat) : BitVec 16

/-- Free value (R14): the answer of `BusFree()` in step `n`, where the state's queue of answers is empty. -/
opaque Config.busFreeDraw (n : Nat) : Bool

/-- Free value (R14): the answer of `BusTx` in step `n` (true is `Ok`), where the state's queue of answers is empty. -/
opaque Config.busTxDraw (n : Nat) : Bool

/-- The NaN drawn at a site of step `n`: any sign, exponent all ones, any fraction but zero (R13, U8). -/
def Config.nan (n site : Nat) : F :=
  BitVec.ofBool (Config.nanSign n site) ++ 0xFF#8 ++ BitVec.ofNat 23 ((Config.nanFrac n site).val + 1)

/-! The operations of a `Num` other than binary32 (R13): total functions of their operands, without a body. -/

/-- `fadd` of the other `Num` of number `n`. -/
opaque Config.numAdd (n : Nat) (a b : F) : F
/-- `fsub`. -/
opaque Config.numSub (n : Nat) (a b : F) : F
/-- `fmul`. -/
opaque Config.numMul (n : Nat) (a b : F) : F
/-- `fdiv`. -/
opaque Config.numDiv (n : Nat) (a b : F) : F
/-- `fabs`. -/
opaque Config.numAbs (n : Nat) (a : F) : F
/-- `<f`, and read backwards `>f`. -/
opaque Config.numLt (n : Nat) (a b : F) : Bool
/-- `≤f`, and read backwards `≥f`. -/
opaque Config.numLe (n : Nat) (a b : F) : Bool
/-- `i2f`. -/
opaque Config.numOfInt (n : Nat) (i : Int) : F
/-- `trunc(a * 2^j)`, or none where it is not defined (U1). -/
opaque Config.numTrunc (n : Nat) (a : F) (j : Nat) : Option Int

end Sys2Proof
end

