-- ==== Sys2Proof/WellFormed.lean ====
section
/-! DEFINITION. Which instructions an encoding admits: the operand ranges of 30_encoding.md R86 and R87 that do not depend on
the configuration (`dev` against `N_DEV` is checked by the meanings), and the range of a frame's `dlc` (R88). -/

namespace Sys2Proof

/-- A loop select names one of the three loops; 3 is reserved (R85, R87). -/
def loopOk (loop : BitVec 2) : Bool := loop != 3#2

/-- A frame has at most eight data bytes (R88; U13). -/
def Answer.wf (ans : Answer) : Bool := decide (ans.dlc.toNat ≤ 8)

/-- The operand ranges of R87, one line per kind of check. -/
def Instr.wf : Instr → Bool
  | .pidConfigure _ loop mode _ _ _ => loopOk loop && decide (mode.toNat ≤ 1)
  | .pidSetSetpoint _ loop _ | .pidSetFeedback _ loop _ | .pidSetFeedforward _ loop _ => loopOk loop
  | .pidSetGains _ loop _ _ _ => loopOk loop
  | .pidSetLimits _ loop _ _ => loopOk loop
  | .pidStep _ loop | .pidOutput _ loop | .pidClear _ loop => loopOk loop
  | .casSetMode _ opmode => decide (opmode.toNat ≤ 5)
  | .casCalculate _ => true
  | .casSetCurrent _ _ | .casSetVelocity _ _ | .casSetPosition _ _ => true
  | .casSetCurrentFf _ _ _ | .casSetVelocityFf _ _ _ | .casSetPositionFf _ _ _ => true
  | .q24Encode _ | .q24Decode _ | .t8Encode _ | .t8Decode _ => true
  | .regFind _ => true
  | .regRead _ field => decide (field.toNat ≤ 31)
  | .actHandshake _ => true
  | .actGet _ kind => decide (kind.toNat ≤ 19)
  | .actSetCurrent _ _ | .actSetSpeed _ _ | .actSetPosition _ _ => true
  | .actSetMode _ _ | .actSetPower _ _ => true
  | .actSetLimit _ kind _ => decide (kind.toNat ≤ 5)
  | .actSend _ dlc _ _ => decide (1 ≤ dlc.toNat) && decide (dlc.toNat ≤ 8)
  | .driveCycle _ => true
  | .handshake ans | .getCurrent ans | .getSpeed ans | .getPosition ans => ans.wf
  | .setCurrent ans | .setSpeed ans | .setPosition ans => ans.wf
  | .getMode ans | .setMode ans | .getPower ans | .setPower ans => ans.wf
  | .getCurOutUpper ans | .getCurOutLower ans | .getSpdOutUpper ans | .getSpdOutLower ans => ans.wf
  | .getPosOutUpper ans | .getPosOutLower ans => ans.wf
  | .setCurOutUpper ans | .setCurOutLower ans | .setSpdOutUpper ans | .setSpdOutLower ans => ans.wf
  | .setPosOutUpper ans | .setPosOutLower ans => ans.wf
  | .getMotorTemp ans | .getInverterTemp ans => ans.wf
  | .getProfileSpeed ans | .getProfileAccel ans | .getProfileDecel ans => ans.wf
  | .getTravelUpper ans | .getTravelLower ans => ans.wf
  | .getExceptions ans | .getShutdownState ans => ans.wf

end Sys2Proof
end

