-- ==== Sys2Proof/Decode.lean ====
section
/-! DEFINITION. Decoding and encoding: the 128-bit host command (30_encoding.md R85, R86, R87) and the bus frame (R88 to R93),
with the byte-order helpers both use (20_memory.md R62, R63). -/

namespace Sys2Proof

/-! ### Byte order -/

/-- Four bytes as a word, the first in the most significant place (R62, R63). -/
def wordOfBytes (b0 b1 b2 b3 : Byte) : Word := b0 ++ b1 ++ b2 ++ b3

/-- Byte `i` of a word, byte 0 the most significant (R62, R63). -/
def byteOfWord (w : Word) (i : Nat) : Byte := w.extractLsb' (24 - 8 * i) 8

/-- The eight bytes in the order they go on the wire. -/
def Bytes8.toList (d : Bytes8) : List Byte := [d.d0, d.d1, d.d2, d.d3, d.d4, d.d5, d.d6, d.d7]

/-- The bytes of two operand words, `d[0]` in `A[31:24]` (R63, R86 row 0x48). -/
def Bytes8.ofWords (a b : Word) : Bytes8 where
  d0 := byteOfWord a 0
  d1 := byteOfWord a 1
  d2 := byteOfWord a 2
  d3 := byteOfWord a 3
  d4 := byteOfWord b 0
  d5 := byteOfWord b 1
  d6 := byteOfWord b 2
  d7 := byteOfWord b 3

/-- Eight zero bytes. -/
def Bytes8.zero : Bytes8 := ⟨0, 0, 0, 0, 0, 0, 0, 0⟩

/-! ### Decoding host commands -/

/-- Why a word or a frame is no instruction. -/
inductive DecodeError where
  /-- `op` is not in the table of R86. -/
  | unknownOp
  /-- `W0[23:18]` is not 0 (R87). -/
  | reservedBits
  /-- `loop` is 3 or `imm8` lies outside the range of its row (R87). -/
  | operandRange
  /-- `d[0]` is not in the range of `OPC` (R94). -/
  | unknownOpcode
  /-- The frame claims more than eight data bytes (R88, U13). -/
  | dlcRange
  deriving DecidableEq, Repr

/-- The fields of a host command word (R85). -/
structure HostFields where
  op : Byte
  dev : Byte
  loop : BitVec 2
  reserved : BitVec 6
  imm8 : Byte
  a : Word
  b : Word
  c : Word
  deriving DecidableEq, Repr

/-- The fields of a 128-bit command: `W0`, `A`, `B`, `C` from the least significant word up (R85). -/
def hostFields (cmd : BitVec 128) : HostFields where
  op := cmd.extractLsb' 0 8
  dev := cmd.extractLsb' 8 8
  loop := cmd.extractLsb' 16 2
  reserved := cmd.extractLsb' 18 6
  imm8 := cmd.extractLsb' 24 8
  a := cmd.extractLsb' 32 32
  b := cmd.extractLsb' 64 32
  c := cmd.extractLsb' 96 32

/-- The host operations of R86: operation number and the instruction its fields make. -/
def hostTable : List (Byte × (HostFields → Instr)) :=
  [(0x01, fun h => .pidConfigure h.dev h.loop h.imm8 h.a h.b h.c),
   (0x02, fun h => .pidSetSetpoint h.dev h.loop h.a),
   (0x03, fun h => .pidSetFeedback h.dev h.loop h.a),
   (0x04, fun h => .pidSetFeedforward h.dev h.loop h.a),
   (0x05, fun h => .pidSetGains h.dev h.loop h.a h.b h.c),
   (0x06, fun h => .pidSetLimits h.dev h.loop h.a h.b),
   (0x07, fun h => .pidStep h.dev h.loop),
   (0x08, fun h => .pidOutput h.dev h.loop),
   (0x09, fun h => .pidClear h.dev h.loop),
   (0x10, fun h => .casSetMode h.dev h.imm8),
   (0x11, fun h => .casCalculate h.dev),
   (0x12, fun h => .casSetCurrent h.dev h.a),
   (0x13, fun h => .casSetVelocity h.dev h.a),
   (0x14, fun h => .casSetPosition h.dev h.a),
   (0x15, fun h => .casSetCurrentFf h.dev h.a h.b),
   (0x16, fun h => .casSetVelocityFf h.dev h.a h.b),
   (0x17, fun h => .casSetPositionFf h.dev h.a h.b),
   (0x20, fun h => .q24Encode h.a),
   (0x21, fun h => .q24Decode h.a),
   (0x22, fun h => .t8Encode h.a),
   (0x23, fun h => .t8Decode (h.a.extractLsb' 0 16)),
   (0x30, fun h => .regFind h.dev),
   (0x31, fun h => .regRead h.dev h.imm8),
   (0x40, fun h => .actHandshake h.dev),
   (0x41, fun h => .actGet h.dev h.imm8),
   (0x42, fun h => .actSetCurrent h.dev h.a),
   (0x43, fun h => .actSetSpeed h.dev h.a),
   (0x44, fun h => .actSetPosition h.dev h.a),
   (0x45, fun h => .actSetMode h.dev h.imm8),
   (0x46, fun h => .actSetPower h.dev h.imm8),
   (0x47, fun h => .actSetLimit h.dev h.imm8 h.a),
   (0x48, fun h => .actSend h.dev h.imm8 h.a h.b),
   (0x50, fun h => .driveCycle h.dev)]

/-- The operation a command's `op` names, by R86. -/
def hostRow (op : Byte) : Option (HostFields → Instr) := (hostTable.find? (fun row => row.1 == op)).map Prod.snd

/-- Decoding of a host command; every command it rejects is illegal by R87. -/
def decodeHost (cmd : BitVec 128) : Except DecodeError Instr :=
  let h := hostFields cmd
  match hostRow h.op with
  | none => .error .unknownOp
  | some mk =>
    if h.reserved ≠ 0 then .error .reservedBits
    else if (mk h).wf then .ok (mk h) else .error .operandRange

/-! ### Decoding frames -/

/-- The four decode classes of R92. -/
inductive FrameClass where
  | status | q24 | t8 | byte
  deriving DecidableEq, Repr

/-- The class of each kind (R92). -/
def FrameKind.cls : FrameKind → FrameClass
  | .handshake | .setMode | .setPower | .setCurrent | .setSpeed | .setPosition => .status
  | .setCurOutUpper | .setCurOutLower | .setSpdOutUpper | .setSpdOutLower | .setPosOutUpper | .setPosOutLower => .status
  | .getCurrent | .getSpeed | .getPosition => .q24
  | .getCurOutUpper | .getCurOutLower | .getSpdOutUpper | .getSpdOutLower | .getPosOutUpper | .getPosOutLower => .q24
  | .getProfileSpeed | .getProfileAccel | .getProfileDecel | .getTravelUpper | .getTravelLower => .q24
  | .getMotorTemp | .getInverterTemp => .t8
  | .getMode | .getPower | .getExceptions | .getShutdownState => .byte

/-- The least length that holds what an answer of the kind carries by R92 (5 is exact for the Q24 class). -/
def FrameKind.answerDlc (kind : FrameKind) : BitVec 4 :=
  match kind.cls with
  | .status => 2
  | .q24 => 5
  | .t8 => 3
  | .byte => 2

/-- The bytes of a slot after `d[0]`, with its `dlc`. -/
def Bytes8.answer (d : Bytes8) (dlc : BitVec 4) : Answer := ⟨dlc, d.d1, d.d2, d.d3, d.d4, d.d5, d.d6, d.d7⟩

/-- The eight bytes of an answer frame whose opcode byte is `op`. -/
def Answer.bytes (ans : Answer) (op : Byte) : Bytes8 := ⟨op, ans.d1, ans.d2, ans.d3, ans.d4, ans.d5, ans.d6, ans.d7⟩

/-- The instruction of a frame kind. -/
def Instr.ofAnswer (ans : Answer) : FrameKind → Instr
  | .handshake => .handshake ans
  | .getCurrent => .getCurrent ans
  | .getSpeed => .getSpeed ans
  | .getPosition => .getPosition ans
  | .setCurrent => .setCurrent ans
  | .setSpeed => .setSpeed ans
  | .setPosition => .setPosition ans
  | .getMode => .getMode ans
  | .setMode => .setMode ans
  | .getPower => .getPower ans
  | .setPower => .setPower ans
  | .getCurOutUpper => .getCurOutUpper ans
  | .getCurOutLower => .getCurOutLower ans
  | .getSpdOutUpper => .getSpdOutUpper ans
  | .getSpdOutLower => .getSpdOutLower ans
  | .getPosOutUpper => .getPosOutUpper ans
  | .getPosOutLower => .getPosOutLower ans
  | .setCurOutUpper => .setCurOutUpper ans
  | .setCurOutLower => .setCurOutLower ans
  | .setSpdOutUpper => .setSpdOutUpper ans
  | .setSpdOutLower => .setSpdOutLower ans
  | .setPosOutUpper => .setPosOutUpper ans
  | .setPosOutLower => .setPosOutLower ans
  | .getMotorTemp => .getMotorTemp ans
  | .getInverterTemp => .getInverterTemp ans
  | .getProfileSpeed => .getProfileSpeed ans
  | .getProfileAccel => .getProfileAccel ans
  | .getProfileDecel => .getProfileDecel ans
  | .getTravelUpper => .getTravelUpper ans
  | .getTravelLower => .getTravelLower ans
  | .getExceptions => .getExceptions ans
  | .getShutdownState => .getShutdownState ans

/-- Decoding of a received frame: dispatch on `d[0]` (R178), whatever the `dlc` says of it (R89); an opcode outside the range of
`OPC` is no instruction (R94, R185). -/
def decodeFrame (c : Cfg) (dlc : BitVec 4) (d : Bytes8) : Except DecodeError Instr :=
  match c.kindOf d.d0 with
  | none => .error .unknownOpcode
  | some kind => if (d.answer dlc).wf then .ok (.ofAnswer (d.answer dlc) kind) else .error .dlcRange

/-! ### Encoding -/

/-- What an instruction is written as: a host command word or an answer frame. -/
inductive Encoded where
  | host (cmd : BitVec 128)
  | frame (dlc : BitVec 4) (d : Bytes8)
  deriving DecidableEq, Repr

/-- Decoding of either form. -/
def decode (c : Cfg) : Encoded → Except DecodeError Instr
  | .host cmd => decodeHost cmd
  | .frame dlc d => decodeFrame c dlc d

/-- A host command word from its fields, the reserved bits 0 (R85). -/
def packHost (op dev : Byte) (loop : BitVec 2) (imm8 : Byte) (a b c : Word) : BitVec 128 :=
  c ++ b ++ a ++ (imm8 ++ (0 : BitVec 6) ++ loop ++ dev ++ op : BitVec 32)

/-- The answer frame of a kind. -/
def packFrame (c : Cfg) (kind : FrameKind) (ans : Answer) : Encoded := .frame ans.dlc (ans.bytes (c.opcode kind))

/-- The encoding of an instruction: its row of R86 with every ignored field 0, or its answer frame of R92. -/
def encode (c : Cfg) : Instr → Encoded
  | .pidConfigure dev loop mode kp ki kd => .host (packHost 0x01 dev loop mode kp ki kd)
  | .pidSetSetpoint dev loop v => .host (packHost 0x02 dev loop 0 v 0 0)
  | .pidSetFeedback dev loop v => .host (packHost 0x03 dev loop 0 v 0 0)
  | .pidSetFeedforward dev loop v => .host (packHost 0x04 dev loop 0 v 0 0)
  | .pidSetGains dev loop kp ki kd => .host (packHost 0x05 dev loop 0 kp ki kd)
  | .pidSetLimits dev loop max min => .host (packHost 0x06 dev loop 0 max min 0)
  | .pidStep dev loop => .host (packHost 0x07 dev loop 0 0 0 0)
  | .pidOutput dev loop => .host (packHost 0x08 dev loop 0 0 0 0)
  | .pidClear dev loop => .host (packHost 0x09 dev loop 0 0 0 0)
  | .casSetMode dev opmode => .host (packHost 0x10 dev 0 opmode 0 0 0)
  | .casCalculate dev => .host (packHost 0x11 dev 0 0 0 0 0)
  | .casSetCurrent dev v => .host (packHost 0x12 dev 0 0 v 0 0)
  | .casSetVelocity dev v => .host (packHost 0x13 dev 0 0 v 0 0)
  | .casSetPosition dev v => .host (packHost 0x14 dev 0 0 v 0 0)
  | .casSetCurrentFf dev v ff => .host (packHost 0x15 dev 0 0 v ff 0)
  | .casSetVelocityFf dev v ff => .host (packHost 0x16 dev 0 0 v ff 0)
  | .casSetPositionFf dev v ff => .host (packHost 0x17 dev 0 0 v ff 0)
  | .q24Encode v => .host (packHost 0x20 0 0 0 v 0 0)
  | .q24Decode w => .host (packHost 0x21 0 0 0 w 0 0)
  | .t8Encode v => .host (packHost 0x22 0 0 0 v 0 0)
  | .t8Decode raw => .host (packHost 0x23 0 0 0 (raw.setWidth 32) 0 0)
  | .regFind dev => .host (packHost 0x30 dev 0 0 0 0 0)
  | .regRead dev field => .host (packHost 0x31 dev 0 field 0 0 0)
  | .actHandshake dev => .host (packHost 0x40 dev 0 0 0 0 0)
  | .actGet dev kind => .host (packHost 0x41 dev 0 kind 0 0 0)
  | .actSetCurrent dev v => .host (packHost 0x42 dev 0 0 v 0 0)
  | .actSetSpeed dev v => .host (packHost 0x43 dev 0 0 v 0 0)
  | .actSetPosition dev v => .host (packHost 0x44 dev 0 0 v 0 0)
  | .actSetMode dev mode => .host (packHost 0x45 dev 0 mode 0 0 0)
  | .actSetPower dev power => .host (packHost 0x46 dev 0 power 0 0 0)
  | .actSetLimit dev kind v => .host (packHost 0x47 dev 0 kind v 0 0)
  | .actSend dev dlc a b => .host (packHost 0x48 dev 0 dlc a b 0)
  | .driveCycle dev => .host (packHost 0x50 dev 0 0 0 0 0)
  | .handshake ans => packFrame c .handshake ans
  | .getCurrent ans => packFrame c .getCurrent ans
  | .getSpeed ans => packFrame c .getSpeed ans
  | .getPosition ans => packFrame c .getPosition ans
  | .setCurrent ans => packFrame c .setCurrent ans
  | .setSpeed ans => packFrame c .setSpeed ans
  | .setPosition ans => packFrame c .setPosition ans
  | .getMode ans => packFrame c .getMode ans
  | .setMode ans => packFrame c .setMode ans
  | .getPower ans => packFrame c .getPower ans
  | .setPower ans => packFrame c .setPower ans
  | .getCurOutUpper ans => packFrame c .getCurOutUpper ans
  | .getCurOutLower ans => packFrame c .getCurOutLower ans
  | .getSpdOutUpper ans => packFrame c .getSpdOutUpper ans
  | .getSpdOutLower ans => packFrame c .getSpdOutLower ans
  | .getPosOutUpper ans => packFrame c .getPosOutUpper ans
  | .getPosOutLower ans => packFrame c .getPosOutLower ans
  | .setCurOutUpper ans => packFrame c .setCurOutUpper ans
  | .setCurOutLower ans => packFrame c .setCurOutLower ans
  | .setSpdOutUpper ans => packFrame c .setSpdOutUpper ans
  | .setSpdOutLower ans => packFrame c .setSpdOutLower ans
  | .setPosOutUpper ans => packFrame c .setPosOutUpper ans
  | .setPosOutLower ans => packFrame c .setPosOutLower ans
  | .getMotorTemp ans => packFrame c .getMotorTemp ans
  | .getInverterTemp ans => packFrame c .getInverterTemp ans
  | .getProfileSpeed ans => packFrame c .getProfileSpeed ans
  | .getProfileAccel ans => packFrame c .getProfileAccel ans
  | .getProfileDecel ans => packFrame c .getProfileDecel ans
  | .getTravelUpper ans => packFrame c .getTravelUpper ans
  | .getTravelLower ans => packFrame c .getTravelLower ans
  | .getExceptions ans => packFrame c .getExceptions ans
  | .getShutdownState ans => packFrame c .getShutdownState ans

/-! ### The words of the opcode table -/

/-- The frame a table row of at most 16 bits stands for: its bytes from `d[0]` up, every other byte 0, with the `dlc` of R92's
inbound layout (the table gives a frame's `dlc` and identifier no bits). -/
def tableFrame (c : Cfg) (w : Nat) : BitVec 4 × Bytes8 :=
  let d0 : Byte := BitVec.ofNat 8 w
  (((c.kindOf d0).map FrameKind.answerDlc).getD 0, { Bytes8.zero with d0 := d0, d1 := BitVec.ofNat 8 (w / 2 ^ 8) })

/-- The instruction the decoder reads from a row's bits: rows of one or two bytes are frames (bit 0 is the least significant bit of
`d[0]`), longer rows host commands (bit 0 is `W0[0]`), under the default configuration. -/
def decodeTableWord (nbits w : Nat) : Option Instr :=
  if nbits ≤ 16 then (decodeFrame .default (tableFrame .default w).1 (tableFrame .default w).2).toOption
  else (decodeHost (BitVec.ofNat 128 w)).toOption

end Sys2Proof
end

