-- ==== Sys2Proof/Machine/State.lean ====
section
/-! DEFINITION. The state of the core as plain data (10_state.md), its reset value, and the reasons a step can stop. -/

namespace Sys2Proof.Machine

/-! ### The PID register file (R20 to R30) -/

/-- `P[c][l].mode` (R21). -/
inductive PidMode where
  | increment | regular
  deriving DecidableEq, Repr

/-- `P[c][l].lim` (R28). -/
inductive Limit where
  | unlimited | collapsed | bounded
  deriving DecidableEq, Repr

/-- The loop select (R12). -/
inductive Loop where
  | pos | vel | cur
  deriving DecidableEq, Repr

/-- One PidState `P[c][l]` (R21 to R28). -/
structure PidState where
  mode : PidMode
  kp : F
  ki : F
  kd : F
  setpoint : F
  feedback : F
  feedforward : F
  out0 : F
  out1 : F
  err0 : F
  err1 : F
  err2 : F
  integralSum : F
  max : F
  min : F
  lim : Limit
  deriving DecidableEq, Repr

/-- A PidState after reset (R53). -/
def PidState.reset : PidState where
  mode := .increment
  kp := fZero
  ki := fZero
  kd := fZero
  setpoint := fZero
  feedback := fZero
  feedforward := fZero
  out0 := fZero
  out1 := fZero
  err0 := fZero
  err1 := fZero
  err2 := fZero
  integralSum := fZero
  max := fZero
  min := fZero
  lim := .unlimited

/-! ### The cascades (R31 to R33) -/

/-- `M[c].opmode` (R31). -/
inductive OpMode where
  | currentMode | currentFFMode | velocityMode | velocityFFMode | positionMode | positionFFMode
  deriving DecidableEq, Repr

/-- A MotorCascade: three PidStates and the operating mode. -/
structure Cascade where
  opmode : OpMode
  pos : PidState
  vel : PidState
  cur : PidState
  deriving DecidableEq, Repr

/-- A cascade after reset (R53, R54). -/
def Cascade.reset : Cascade := ⟨.currentMode, .reset, .reset, .reset⟩

/-! ### The actuator registry (R34 to R47) -/

/-- `A[k].live` (R36). -/
inductive Live where
  | offline | online
  deriving DecidableEq, Repr

/-- `A[k].ack` (R38). -/
inductive Ack where
  | clear | success | fail
  deriving DecidableEq, Repr

/-- `A[k].phase` (R45). -/
inductive Phase where
  | idle | awaitingAck | acked | failed | timedOut
  deriving DecidableEq, Repr

/-- The receive slot `RX[k]` (R44). -/
structure RxSlot where
  dlc : BitVec 4
  d : Bytes8
  deriving DecidableEq, Repr

/-- One ActuatorRecord `A[k]` with its receive slot `RX[k]` (R36 to R45). `A[k].id` is the constant `DEV_ID[k]` (R35) and is
read from the configuration by `State.devId`. -/
structure ActuatorRecord where
  live : Live
  failCnt : BitVec 8
  ack : Ack
  fresh : Bool
  phase : Phase
  power : Byte
  runMode : Byte
  shutdown : Byte
  exception : Byte
  current : F
  speed : F
  position : F
  motorTemp : F
  inverterTemp : F
  curOutUpper : F
  curOutLower : F
  spdOutUpper : F
  spdOutLower : F
  posOutUpper : F
  posOutLower : F
  travelUpper : F
  travelLower : F
  profileSpeed : F
  profileAccel : F
  profileDecel : F
  cmdCurrent : F
  cmdSpeed : F
  cmdPosition : F
  rx : RxSlot
  deriving DecidableEq, Repr

/-- An ActuatorRecord after reset (R54). -/
def ActuatorRecord.reset (c : Cfg) : ActuatorRecord where
  live := .offline
  failCnt := 0
  ack := .clear
  fresh := false
  phase := .idle
  power := c.powerOff
  runMode := 0
  shutdown := 0
  exception := 0
  current := fZero
  speed := fZero
  position := fZero
  motorTemp := fZero
  inverterTemp := fZero
  curOutUpper := fZero
  curOutLower := fZero
  spdOutUpper := fZero
  spdOutLower := fZero
  posOutUpper := fZero
  posOutLower := fZero
  travelUpper := fZero
  travelLower := fZero
  profileSpeed := fZero
  profileAccel := fZero
  profileDecel := fZero
  cmdCurrent := fZero
  cmdSpeed := fZero
  cmdPosition := fZero
  rx := ⟨0, .zero⟩

/-! ### The sequencer (R50) -/

/-- The command being run, with the operands it still needs; only commands that perform exchanges are ever in progress. -/
inductive Call where
  | handshake
  | get (kind : FrameKind)
  | setCurrent (v : F)
  | setSpeed (v : F)
  | setPosition (v : F)
  | setMode (m : Byte)
  | setPower (p : Byte)
  | setLimit (kind : FrameKind) (v : F)
  | send (dlc : Nat) (d : Bytes8)
  | driveCycle
  deriving DecidableEq, Repr

/-- The executor's next step inside an exchange (R67): `S1`, `S2`, `S3`, a poll, `S4`, `S5`, or `S5a` after an exhausted wait. -/
inductive Point where
  | s1 | s2 | s3 | poll | s4 | s5 | s5a
  deriving DecidableEq, Repr

/-- `seq` (R50): `Ready`, or `Busy(op, stage, k, n)` where the stage is the exchange in progress (0 for the first) and the point
reached in it. -/
inductive Seq where
  | ready
  | busy (call : Call) (exchange : Nat) (point : Point) (k : Nat) (n : Nat)
  deriving DecidableEq, Repr

/-! ### Results, ports and the event history (R230, R84, R70) -/

/-- The nine result codes (R230). -/
inductive Result where
  | success | deviceNotFound | outOfRange | busBusy | transmitFailure | ackTimeout | ackFailure | modeMismatch
  | illegalCommand
  deriving DecidableEq, Repr

/-- The host response port: `res` and `val`, valid when a command has just ended (R84). -/
structure Response where
  res : Result
  val : Word
  deriving DecidableEq, Repr

/-- A frame handed to the bus: identifier and data bytes; its `dlc` is their number (R88). -/
structure Frame where
  id : Nat
  data : List Byte
  deriving DecidableEq, Repr

/-- The frame-arrival event `on_frame_received(id, dlc, d[0..7])` (R236). -/
structure Arrival where
  id : Nat
  dlc : BitVec 4
  d : Bytes8
  deriving DecidableEq, Repr

/-- What the outside does next at the ports (R84, R244), or `tick`: nothing, so that the executor takes its step. -/
inductive Input where
  | tick
  | command (cmd : BitVec 128)
  | arrival (a : Arrival)
  | reset
  deriving DecidableEq, Repr

/-- The event history a model records (R70). -/
inductive Event where
  | busFree (answer : Bool)
  | busTx (frame : Frame) (ok : Bool)
  | arrival (a : Arrival)
  | command (cmd : BitVec 128)
  | result (r : Response)
  | reset
  deriving DecidableEq, Repr

/-! ### The state -/

/-- The state: the spec's own (`cascades`, `devs`, `seq`), the parameters, the ports' and the model's own fields. -/
structure State where
  /-- The parameters of R9; no step changes them (assumption log 1). -/
  cfg : Cfg
  /-- `P[c][l]` and `M[c].opmode`, cascade `c` at position `c`. -/
  cascades : List Cascade
  /-- `A[k]` and `RX[k]`, record `k` at position `k`. -/
  devs : List ActuatorRecord
  /-- `seq`. -/
  seq : Seq
  /-- The host response port: `some` exactly after a step that ended a command (R84). -/
  rsp : Option Response
  /-- The model's own: what happens at the ports, in order; when it is empty the executor moves (assumption log 4). -/
  inputs : List Input
  /-- The model's own: the environment's next answers to `BusFree()`; when it is empty the answer is a draw (log 5). -/
  busFree : List Bool
  /-- The model's own: the environment's next answers to `BusTx`, true for `Ok`; when it is empty the answer is a draw (log 5). -/
  busTx : List Bool
  /-- The model's own: the event history, the newest event first (R70). -/
  history : List Event
  /-- The model's own: the number of steps taken, to which the free values are applied (log 6). -/
  draws : Nat
  deriving DecidableEq, Repr

/-- The spec's state after reset under a configuration (R260), with nothing at the ports and an empty history. -/
def State.resetWith (c : Cfg) : State where
  cfg := c
  cascades := List.replicate c.nDev Cascade.reset
  devs := List.replicate c.nDev (ActuatorRecord.reset c)
  seq := .ready
  rsp := none
  inputs := []
  busFree := []
  busTx := []
  history := []
  draws := 0

/-- The machine right after reset, under the default configuration. -/
def State.reset : State := State.resetWith .default

/-! ### Stops -/

/-- There is no fault: the core has no traps, every failure is a result code in a next state (R15, R241). The type has no
constructor, so no step answers with a fault (safe: nothing is left out). -/
inductive Fault where
  deriving DecidableEq, Repr

/-- Why the model gives an input no meaning. -/
inductive Refusal where
  /-- Raised by no arm of `exec` once every instruction has its meaning; safe. -/
  | notModelled (mnemonic : String)
  /-- Raised by `step` for an arrival event whose `dlc` is 9 to 15 or whose identifier is wider than `ID_W`: "not a frame" (R237,
  U13). Safe: the spec gives it no effect and says that such a value is refused. -/
  | arrivalNotAFrame
  deriving DecidableEq, Repr

/-- The outcome of a step. -/
abbrev Out := Host.Outcome State Fault Refusal

end Sys2Proof.Machine
end

