-- ==== Sys2Proof/Machine/Float.lean ====
section
/-! DEFINITION. The floating-point primitives of 00_scope.md R13: IEEE 754 binary32, each operation rounded once to nearest with
ties to even, subnormals kept, comparisons false on NaN. A finite value is an integer number of units of 2^-149; an operation
computes exactly in integers and rounds at the end. Each operation has a partial core that answers none where the result is a
NaN, and a total form that takes the NaN to return, because which NaN comes back is a free value (U8). The total forms are given
once, under a configuration's `Num`; binary32 is the default `Num`. -/

namespace Sys2Proof.Machine.F32

/-- The sign bit. -/
def neg (a : F) : Bool := a.msb

/-- The 31 bits below the sign: they order the magnitudes. -/
def mag (a : F) : Nat := a.toNat % 2 ^ 31

/-- The magnitude of infinity; every larger one is a NaN. -/
def infMag : Nat := 0x7F800000

def isNaN (a : F) : Bool := decide (infMag < mag a)
def isInf (a : F) : Bool := decide (mag a = infMag)
def isZero (a : F) : Bool := decide (mag a = 0)

/-- The magnitude of a finite value in units of 2^-149. -/
def units (a : F) : Nat :=
  if mag a < 2 ^ 23 then mag a else (2 ^ 23 + mag a % 2 ^ 23) * 2 ^ (mag a / 2 ^ 23 - 1)

/-- A finite value in units of 2^-149. -/
def toInt (a : F) : Int := if neg a then -(units a : Int) else (units a : Int)

/-- The word of a sign and a magnitude. -/
def pack (sign : Bool) (m : Nat) : F := BitVec.ofNat 32 (m + if sign then 2 ^ 31 else 0)

/-- The quotient of two naturals to the nearest integer, ties to even. -/
def divNearest (num den : Nat) : Nat :=
  let q := num / den
  let r := num % den
  if den < 2 * r ∨ (2 * r = den ∧ q % 2 = 1) then q + 1 else q

/-- The magnitude bits nearest to `num / den` units of 2^-149: the unit in the last place is 2^k of them. -/
def roundMag (num den : Nat) : Nat :=
  let k := Nat.log2 (num / den) - 23
  Nat.min infMag (k * 2 ^ 23 + divNearest num (den * 2 ^ k))

/-- Rounding of `±num/den` units to binary32; a result too large is infinite. -/
def round (sign : Bool) (num den : Nat) : F := pack sign (roundMag num den)

/-- The exact sum of two finite values; a zero sum is -0.0 only when both are -0.0. -/
def addFinite (a b : F) : F :=
  let t := toInt a + toInt b
  if t = 0 then pack (neg a && neg b) 0 else round (decide (t < 0)) t.natAbs 1

/-- `a + b`, or none for a NaN. -/
def add? (a b : F) : Option F :=
  if isNaN a || isNaN b then none
  else if isInf a then (if isInf b && neg a != neg b then none else some a)
  else if isInf b then some b
  else some (addFinite a b)

/-- `a` with its sign changed. -/
def negate (a : F) : F := a ^^^ 0x80000000#32

/-- `a - b`, or none for a NaN. -/
def sub? (a b : F) : Option F := add? a (negate b)

/-- `a * b`, or none for a NaN. -/
def mul? (a b : F) : Option F :=
  let sign := neg a != neg b
  if isNaN a || isNaN b then none
  else if isInf a || isInf b then (if isZero a || isZero b then none else some (pack sign infMag))
  else some (round sign (units a * units b) (2 ^ 149))

/-- `a / b`, or none for a NaN. -/
def div? (a b : F) : Option F :=
  let sign := neg a != neg b
  if isNaN a || isNaN b then none
  else if isInf a then (if isInf b then none else some (pack sign infMag))
  else if isInf b then some (pack sign 0)
  else if isZero b then (if isZero a then none else some (pack sign infMag))
  else some (round sign (units a * 2 ^ 149) (units b))

/-- `fabs` (R13): the sign cleared. -/
def abs (a : F) : F := a &&& 0x7FFFFFFF#32

/-- The integer by which values that are not NaN are ordered; both zeros have key 0. -/
def key (a : F) : Int := if neg a then -(mag a : Int) else (mag a : Int)

/-- `a <f b` (R13). -/
def lt (a b : F) : Bool := !isNaN a && !isNaN b && decide (key a < key b)
/-- `a ≤f b` (R13). -/
def le (a b : F) : Bool := !isNaN a && !isNaN b && decide (key a ≤ key b)
/-- `i2f(n)` (R13). -/
def ofInt (n : Int) : F := round (decide (n < 0)) (n.natAbs * 2 ^ 149) 1

/-- Whether the product of a value with 2^j is finite in binary32 (R111, U1). -/
def scalesFinite (a : F) (j : Nat) : Bool :=
  !isNaN a && !isInf a && decide (units a * 2 ^ j < 2 ^ (149 + 128))

/-- `trunc(a * 2^j)` for a finite `a`: the exact product, toward zero (R111, R113). -/
def truncScaled (a : F) (j : Nat) : Int := (toInt a * 2 ^ j).tdiv (2 ^ 149)

/-- `trunc(a * 2^j)`, or none where the product is not finite. -/
def trunc? (a : F) (j : Nat) : Option Int := if scalesFinite a j then some (truncScaled a j) else none

end Sys2Proof.Machine.F32

/-! ### The primitives of R13 under a configuration's `Num` -/

namespace Sys2Proof

/-- `a + b`, or none for a result that is any NaN (U8). -/
def Num.add? : Num → F → F → Option F
  | .binary32, a, b => Machine.F32.add? a b
  | .other n, a, b => some (Config.numAdd n a b)

/-- `a - b`, likewise. -/
def Num.sub? : Num → F → F → Option F
  | .binary32, a, b => Machine.F32.sub? a b
  | .other n, a, b => some (Config.numSub n a b)

/-- `a * b`, likewise. -/
def Num.mul? : Num → F → F → Option F
  | .binary32, a, b => Machine.F32.mul? a b
  | .other n, a, b => some (Config.numMul n a b)

/-- `a / b`, likewise. -/
def Num.div? : Num → F → F → Option F
  | .binary32, a, b => Machine.F32.div? a b
  | .other n, a, b => some (Config.numDiv n a b)

/-- `fadd` (R13), with the NaN to return. -/
def Num.add (m : Num) (nan a b : F) : F := (m.add? a b).getD nan
/-- `fsub` (R13). -/
def Num.sub (m : Num) (nan a b : F) : F := (m.sub? a b).getD nan
/-- `fmul` (R13). -/
def Num.mul (m : Num) (nan a b : F) : F := (m.mul? a b).getD nan
/-- `fdiv` (R13). -/
def Num.div (m : Num) (nan a b : F) : F := (m.div? a b).getD nan

/-- `fabs` (R13). -/
def Num.abs : Num → F → F
  | .binary32, a => Machine.F32.abs a
  | .other n, a => Config.numAbs n a

/-- `a <f b` (R13). -/
def Num.lt : Num → F → F → Bool
  | .binary32, a, b => Machine.F32.lt a b
  | .other n, a, b => Config.numLt n a b

/-- `a ≤f b` (R13). -/
def Num.le : Num → F → F → Bool
  | .binary32, a, b => Machine.F32.le a b
  | .other n, a, b => Config.numLe n a b

/-- `a >f b` (R13). -/
def Num.gt (m : Num) (a b : F) : Bool := m.lt b a
/-- `a ≥f b` (R13). -/
def Num.ge (m : Num) (a b : F) : Bool := m.le b a

/-- `i2f(i)` (R13). It also gives the literals of the rules, all of which are integers but `0.0` and `EPS_LIMIT`. -/
def Num.ofInt : Num → Int → F
  | .binary32, i => Machine.F32.ofInt i
  | .other n, i => Config.numOfInt n i

/-- `trunc(a * 2^j)` (R13, R111, R113), or none where it is not defined (U1). -/
def Num.trunc? : Num → F → Nat → Option Int
  | .binary32, a, j => Machine.F32.trunc? a j
  | .other n, a, j => Config.numTrunc n a j

end Sys2Proof
end

