-- ==== Sys2Proof/Machine/Ops.lean ====
section
/-! DEFINITION. The named operations over the state: reading and writing a record, a cascade or a loop, ending a command with a
result code (the core's counterpart of taking an exception, R241), the environment primitives (R14) and the notifier (R237). -/

namespace Sys2Proof.Machine

/-! ### Registers -/

/-- `A[k].id`, the constant `DEV_ID[k]` (R35). -/
def State.devId (s : State) (k : Nat) : Nat := s.cfg.devId.getD k 0

/-- `A[k]` (R12). -/
def State.dev (s : State) (k : Nat) : ActuatorRecord := s.devs.getD k (.reset s.cfg)

/-- A write to `A[k]`; every other record is unchanged. -/
def State.modDev (s : State) (k : Nat) (f : ActuatorRecord → ActuatorRecord) : State :=
  { s with devs := s.devs.modify k f }

/-- Cascade `c` (R12). -/
def State.cascade (s : State) (c : Nat) : Cascade := s.cascades.getD c .reset

/-- A write to cascade `c`; every other cascade is unchanged. -/
def State.modCascade (s : State) (c : Nat) (f : Cascade → Cascade) : State :=
  { s with cascades := s.cascades.modify c f }

/-- `P[c][l]` of one cascade (R12). -/
def Cascade.loop (c : Cascade) : Loop → PidState
  | .pos => c.pos
  | .vel => c.vel
  | .cur => c.cur

/-- A write to one loop of a cascade. -/
def Cascade.modLoop (c : Cascade) (l : Loop) (f : PidState → PidState) : Cascade :=
  match l with
  | .pos => { c with pos := f c.pos }
  | .vel => { c with vel := f c.vel }
  | .cur => { c with cur := f c.cur }

/-- `P[c][l]` (R12). -/
def State.loop (s : State) (c : Nat) (l : Loop) : PidState := (s.cascade c).loop l

/-- A write to `P[c][l]`. -/
def State.modLoop (s : State) (c : Nat) (l : Loop) (f : PidState → PidState) : State :=
  s.modCascade c (fun x => x.modLoop l f)

/-- `Find(id)`: the index of the device with this identifier (R160). -/
def State.find (s : State) (id : Nat) : Option Nat := s.cfg.devId.findIdx? (fun x => x == id)

/-- The NaN that the operation at a site of this step returns (U8). -/
def State.nan (s : State) (site : Nat) : F := Config.nan s.draws site

/-! ### Ending a command -/

/-- The number of a result code (R230). -/
def Result.code : Result → Byte
  | .success => 0x00
  | .deviceNotFound => 0x01
  | .outOfRange => 0x02
  | .busBusy => 0x03
  | .transmitFailure => 0x04
  | .ackTimeout => 0x05
  | .ackFailure => 0x06
  | .modeMismatch => 0x07
  | .illegalCommand => 0x08

/-- An event enters the history (R70). -/
def State.record (s : State) (e : Event) : State := { s with history := e :: s.history }

/-- The end of a command (R15, R241): the executor is `Ready`, and the response port shows the result code and a value that is 0
for every result other than `Success` (R85, R230). Nothing else is saved or changed. -/
def State.respond (s : State) (r : Result) (v : Word) : State :=
  let rsp : Response := ⟨r, if r = .success then v else 0⟩
  ({ s with seq := .ready, rsp := some rsp }).record (.result rsp)

/-- `return Success, v`. -/
def succeed (v : Word) (s : State) : Out := .next (s.respond .success v)

/-- `return <result>` for a result other than `Success`. -/
def failWith (r : Result) (s : State) : Out := .next (s.respond r 0)

/-- The end of an illegal command (R87): no register changes. -/
def illegal (s : State) : Out := failWith .illegalCommand s

/-! ### The environment -/

/-- The answer `BusFree()` gives in this step (R14): the environment's next one, or a draw. -/
def State.busFreeAnswer (s : State) : Bool := s.busFree.headD (Config.busFreeDraw s.draws)

/-- The answer `BusTx` gives in this step, true for `Ok` (R14). -/
def State.busTxAnswer (s : State) : Bool := s.busTx.headD (Config.busTxDraw s.draws)

/-- `BusFree()` has been asked (R246): the answer is used up and recorded. -/
def State.askBusFree (s : State) : State :=
  ({ s with busFree := s.busFree.tail }).record (.busFree s.busFreeAnswer)

/-- A frame has been handed to the bus (R246): the answer is used up and recorded with the frame. -/
def State.handToBus (s : State) (frame : Frame) : State :=
  ({ s with busTx := s.busTx.tail }).record (.busTx frame s.busTxAnswer)

/-- The host response port `res[7:0]`, `val[31:0]`, present exactly while `rsp_valid` is 1 (R84, R230). -/
def State.hostResponse (s : State) : Option (Byte × Word) := s.rsp.map (fun p => (p.res.code, p.val))

/-- The `busy` output (R84): 1 while a command runs. -/
def State.isBusy (s : State) : Bool := decide (s.seq ≠ .ready)

/-- The start of a step: the input is taken, the response of the step before is withdrawn, and the step has its own number. -/
def State.begin (s : State) (rest : List Input) : State :=
  { s with inputs := rest, rsp := none, draws := s.draws + 1 }

/-- Reset (R260, R261): every register at its reset value; the configuration, the ports and the history stay. -/
def State.applyReset (s : State) : State :=
  { State.resetWith s.cfg with
    inputs := s.inputs, busFree := s.busFree, busTx := s.busTx, history := .reset :: s.history, draws := s.draws }

/-- The event is a frame: at most eight data bytes, and an identifier of `ID_W` bits (R237, U13). -/
def Arrival.isFrame (a : Arrival) (c : Cfg) : Bool := decide (a.dlc.toNat ≤ 8) && decide (a.id < 2 ^ c.idW)

/-- The notifier's step (R237): one indivisible write of the slot and of `fresh`; a frame of an unknown device is dropped, and an
event that is no frame is refused (U13). -/
def notify (a : Arrival) (s : State) : Out :=
  if a.isFrame s.cfg = false then .refused .arrivalNotAFrame
  else match s.find a.id with
    | none => .next (s.record (.arrival a))
    | some k => .next ((s.record (.arrival a)).modDev k (fun r => { r with rx := ⟨a.dlc, a.d⟩, fresh := true }))

end Sys2Proof.Machine
end

