-- ==== Sys2Proof/Machine/Operands.lean ====
section
/-! DEFINITION. The operand forms of the commands: what `dev`, `loop` and `imm8` select (30_encoding.md R85, R86, R95), the range
predicates (45_protocol_calls.md R203), and the assembly of values from frame bytes (R93). -/

namespace Sys2Proof.Machine

/-- The loop that `loop` selects; 3 is reserved (R85). -/
def Loop.ofBits (b : BitVec 2) : Option Loop :=
  if b = 0 then some .pos else if b = 1 then some .vel else if b = 2 then some .cur else none

/-- The PID mode in `imm8` (R21, R121). -/
def PidMode.ofImm (b : Byte) : Option PidMode :=
  if b = 0 then some .increment else if b = 1 then some .regular else none

/-- The operating modes by number (R31). -/
def OpMode.all : List OpMode :=
  [.currentMode, .currentFFMode, .velocityMode, .velocityFFMode, .positionMode, .positionFFMode]

/-- The operating mode in `imm8`; 6 and above are refused (R31, R141). -/
def OpMode.ofImm (b : Byte) : Option OpMode := OpMode.all[b.toNat]?

/-- The parameter kinds of `act.get`, 0 to 19 (R95). -/
def getKinds : List FrameKind :=
  [.getCurrent, .getSpeed, .getPosition, .getMode, .getPower,
   .getCurOutUpper, .getCurOutLower, .getSpdOutUpper, .getSpdOutLower, .getPosOutUpper, .getPosOutLower,
   .getMotorTemp, .getInverterTemp, .getProfileSpeed, .getProfileAccel, .getProfileDecel,
   .getTravelUpper, .getTravelLower, .getExceptions, .getShutdownState]

/-- `GetKind(imm8)` (R95, R202). -/
def getKind (b : Byte) : Option FrameKind := getKinds[b.toNat]?

/-- The limit kinds of `act.set_limit`, 0 to 5 (R95). -/
def limitKinds : List FrameKind :=
  [.setCurOutUpper, .setCurOutLower, .setSpdOutUpper, .setSpdOutLower, .setPosOutUpper, .setPosOutLower]

/-- `LimitKind(imm8)` (R95, R211). -/
def limitKind (b : Byte) : Option FrameKind := limitKinds[b.toNat]?

/-- `InPos(v)` (R203). -/
def inPos (m : Num) (v : F) : Bool := m.ge v (m.ofInt (-127)) && m.lt v (m.ofInt 128)

/-- `InUnit(v)` (R203). -/
def inUnit (m : Num) (v : F) : Bool := m.ge v (m.ofInt (-1)) && m.le v (m.ofInt 1)

/-- The Q24 word of an answer: `d[1] ++ d[2] ++ d[3] ++ d[4]` (R93). -/
def answerWord (ans : Answer) : Word := wordOfBytes ans.d1 ans.d2 ans.d3 ans.d4

/-- The T8 raw of an answer: `d[1] ++ d[2]` (R93). -/
def answerRaw (ans : Answer) : BitVec 16 := ans.d1 ++ ans.d2

/-- A command on loop `loop` of cascade `dev`: illegal for `loop` = 3 or `dev ≥ N_DEV` (R87), else the action. -/
def onLoop (dev : Byte) (loop : BitVec 2) (s : State) (act : Loop → Out) : Out :=
  match Loop.ofBits loop with
  | none => illegal s
  | some l => if dev.toNat < s.cfg.nDev then act l else illegal s

/-- A command on cascade `dev`: illegal for `dev ≥ N_DEV` (R87), else the action. -/
def onCascade (dev : Byte) (s : State) (act : Out) : Out :=
  if dev.toNat < s.cfg.nDev then act else illegal s

/-- A command on the device with identifier `dev`: `DeviceNotFound` when there is none (R160), else the action on its index. -/
def onDevice (dev : Byte) (s : State) (act : Nat → Out) : Out :=
  match s.find dev.toNat with
  | none => failWith .deviceNotFound s
  | some k => act k

end Sys2Proof.Machine
end

