-- ==== Sys2Proof/Machine/Flags.lean ====
section
/-! DEFINITION. Every computation of the per-device flags of 10_state.md R51: `ack`, `fresh`, `phase`, `fail_cnt` and `live`. -/

namespace Sys2Proof.Machine

/-- `S2` (R172): `ack <- Clear` and `fresh <- 0` in one step. -/
def clearFlags (r : ActuatorRecord) : ActuatorRecord := { r with ack := .clear, fresh := false }

/-- `phase <- p` (R45). -/
def setPhase (p : Phase) (r : ActuatorRecord) : ActuatorRecord := { r with phase := p }

/-- `OkBook` (R176). -/
def okBook (r : ActuatorRecord) : ActuatorRecord := { r with failCnt := 0, live := .online }

/-- `fail_cnt` after one more failure: plus one, saturating at 255 (R177). -/
def bumpFailCnt (n : BitVec 8) : BitVec 8 := if n.toNat < 255 then n + 1 else n

/-- `FailBook` (R177): the device is Offline when the new count has reached `OFFLINE_THRESHOLD`. -/
def failBook (threshold : Nat) (r : ActuatorRecord) : ActuatorRecord :=
  let n := bumpFailCnt r.failCnt
  { r with failCnt := n, live := if threshold ≤ n.toNat then .offline else r.live }

/-- The `ack` of a status byte (R179): every byte other than `STATUS_OK` means Fail. -/
def ackOfStatus (c : Cfg) (status : Byte) : Ack := if status = c.statusOk then .success else .fail

/-- The flags at `S5` by `ack` (R172): `phase` and the bookkeeping. -/
def settle (c : Cfg) (r : ActuatorRecord) : ActuatorRecord :=
  match r.ack with
  | .success => okBook (setPhase .acked r)
  | .fail => failBook c.offlineThreshold (setPhase .failed r)
  | .clear => failBook c.offlineThreshold (setPhase .timedOut r)

/-- The flags at `S5a`, after an exhausted wait (R172). -/
def timeOut (c : Cfg) (r : ActuatorRecord) : ActuatorRecord := failBook c.offlineThreshold (setPhase .timedOut r)

end Sys2Proof.Machine
end

