-- ==== Sys2Proof/Machine/Codec.lean ====
section
/-! DEFINITION. The Fixed-Point Codec (40_codec.md): the functions `Q24Encode`, `Q24Decode`, `T8Encode`, `T8Decode` and the four host
commands that expose them. -/

namespace Sys2Proof.Machine

/-- `Q24Encode(v)` (R111): `trunc(v * 2^24)` modulo 2^32; where the product is not finite the result is the draw (U1). -/
def q24Encode (m : Num) (draw : Word) (v : F) : Word :=
  match m.trunc? v 24 with
  | some t => BitVec.ofInt 32 t
  | none => draw

/-- `Q24Decode(w)` (R112). The quotient of an integer by 2^24 is never a NaN, so the NaN argument is not used. -/
def q24Decode (m : Num) (w : Word) : F := m.div fZero (m.ofInt w.toInt) (m.ofInt (2 ^ 24))

/-- `T8Encode(v)` (R113): `trunc(v * 256)` modulo 2^16; a draw where the product is not finite (U1). -/
def t8Encode (m : Num) (draw : BitVec 16) (v : F) : BitVec 16 :=
  match m.trunc? v 8 with
  | some t => BitVec.ofInt 16 t
  | none => draw

/-- `T8Decode(t)` (R114), `t` read as unsigned. -/
def t8Decode (m : Num) (t : BitVec 16) : F := m.div fZero (m.ofInt t.toNat) (m.ofInt 256)

/-- `q24.encode` (R111). -/
def execQ24Encode (value : F) (s : State) : Out :=
  succeed (q24Encode s.cfg.num (Config.q24Draw s.draws) value) s

/-- `q24.decode` (R112). -/
def execQ24Decode (word : Word) (s : State) : Out := succeed (q24Decode s.cfg.num word) s

/-- `t8.encode` (R113): the raw, zero-extended. -/
def execT8Encode (value : F) (s : State) : Out :=
  succeed ((t8Encode s.cfg.num (Config.t8Draw s.draws) value).setWidth 32) s

/-- `t8.decode` (R114). -/
def execT8Decode (raw : BitVec 16) (s : State) : Out := succeed (t8Decode s.cfg.num raw) s

end Sys2Proof.Machine
end

