-- ==== Sys2Proof/Machine/Pid.lean ====
section
/-! DEFINITION. The PID Controller (41_pid.md): the operations on one PidState and the nine `pid.*` commands. In the operations on a
PidState `nan site` is the NaN that the floating-point operation at that site returns where its result is a NaN (R13, U8). -/

namespace Sys2Proof.Machine

/-- `ZeroBuffers(p)` (R120): the nine buffers become +0.0. -/
def zeroBuffers (p : PidState) : PidState :=
  { p with
    setpoint := fZero, feedback := fZero, feedforward := fZero
    out0 := fZero, out1 := fZero
    err0 := fZero, err1 := fZero, err2 := fZero
    integralSum := fZero }

/-- The tag `pid.set_limits` computes (R126), the Unlimited test first; a NaN difference is not below `EPS_LIMIT`,
also for two equal infinities, where the pseudocode and the corner case of R126 differ (assumption log 23). -/
def limitOf (g : Cfg) (max min : F) : Limit :=
  if (g.num.sub? max min).any (fun d => g.num.lt (g.num.abs d) g.epsLimit) then .unlimited
  else if g.num.lt max min then .collapsed
  else .bounded

/-- `SatHigh(p, v)` (R129). -/
def satHigh (m : Num) (p : PidState) (v : F) : Bool :=
  match p.lim with
  | .unlimited => false
  | .collapsed => m.gt v fZero
  | .bounded => m.gt v p.max

/-- `SatLow(p, v)` (R129). -/
def satLow (m : Num) (p : PidState) (v : F) : Bool :=
  match p.lim with
  | .unlimited => false
  | .collapsed => m.lt v fZero
  | .bounded => m.lt v p.min

/-- `Clamp(p, v)` (R129). -/
def clamp (m : Num) (p : PidState) (v : F) : F :=
  match p.lim with
  | .unlimited => v
  | .collapsed => fZero
  | .bounded => if m.gt v p.max then p.max else if m.lt v p.min then p.min else v

/-- Step 1 of R128: shift the error history. -/
def shiftErr (m : Num) (nan : Nat → F) (p : PidState) : PidState :=
  { p with err2 := p.err1, err1 := p.err0, err0 := m.sub (nan 0) p.setpoint p.feedback }

/-- Whether step 2 of R128 accumulates `err[0]`: not when the previous output is beyond a limit and the error pushes further out. -/
def accumulates (m : Num) (p : PidState) : Bool :=
  if satHigh m p p.out1 then m.lt p.err0 fZero
  else if satLow m p p.out1 then m.gt p.err0 fZero
  else true

/-- Step 2 of R128: conditional integral accumulation. -/
def integrate (m : Num) (nan : Nat → F) (p : PidState) : PidState :=
  if accumulates m p then { p with integralSum := m.add (nan 1) p.integralSum p.err0 } else p

/-- The positional law of step 2 of R128, summed left to right. -/
def regularLaw (m : Num) (nan : Nat → F) (p : PidState) : F :=
  m.add (nan 7)
    (m.add (nan 6) (m.mul (nan 2) p.kp p.err0) (m.mul (nan 3) p.ki p.integralSum))
    (m.mul (nan 5) p.kd (m.sub (nan 4) p.err1 p.err0))

/-- The incremental law of step 3 of R128, summed left to right. -/
def incrementLaw (m : Num) (nan : Nat → F) (p : PidState) : F :=
  m.add (nan 17)
    (m.add (nan 12)
      (m.add (nan 10) p.out1 (m.mul (nan 9) p.kp (m.sub (nan 8) p.err0 p.err1)))
      (m.mul (nan 11) p.ki p.err0))
    (m.mul (nan 16) p.kd
      (m.add (nan 15) (m.sub (nan 14) p.err0 (m.mul (nan 13) (m.ofInt 2) p.err1)) p.err2))

/-- The state after step 1 and, in Regular mode, the accumulation of step 2. -/
def pidPrepare (m : Num) (nan : Nat → F) (p : PidState) : PidState :=
  match p.mode with
  | .regular => integrate m nan (shiftErr m nan p)
  | .increment => shiftErr m nan p

/-- The output of the law (steps 2 and 3). -/
def pidLaw (m : Num) (nan : Nat → F) (p : PidState) : F :=
  match p.mode with
  | .regular => regularLaw m nan p
  | .increment => incrementLaw m nan p

/-- `pid.step` on one PidState (R128): `out[1]` keeps the law's value, `out[0]` has the feedforward added and is then clamped. -/
def pidStep (m : Num) (nan : Nat → F) (p : PidState) : PidState :=
  let q := pidPrepare m nan p
  let law := pidLaw m nan q
  { q with out1 := law, out0 := clamp m q (m.add (nan 18) law q.feedforward) }

/-- `pid.configure` on one PidState (R121). -/
def configure (mode : PidMode) (kp ki kd : F) (p : PidState) : PidState :=
  zeroBuffers { p with mode := mode, kp := kp, ki := ki, kd := kd }

/-- `pid.configure` (R121). -/
def execPidConfigure (dev : Byte) (loop : BitVec 2) (mode : Byte) (kp ki kd : F) (s : State) : Out :=
  match PidMode.ofImm mode with
  | none => illegal s
  | some m => onLoop dev loop s (fun l => succeed 0 (s.modLoop dev.toNat l (configure m kp ki kd)))

/-- `pid.set_setpoint` (R122). -/
def execPidSetSetpoint (dev : Byte) (loop : BitVec 2) (value : F) (s : State) : Out :=
  onLoop dev loop s (fun l => succeed 0 (s.modLoop dev.toNat l (fun p => { p with setpoint := value })))

/-- `pid.set_feedback` (R123). -/
def execPidSetFeedback (dev : Byte) (loop : BitVec 2) (value : F) (s : State) : Out :=
  onLoop dev loop s (fun l => succeed 0 (s.modLoop dev.toNat l (fun p => { p with feedback := value })))

/-- `pid.set_feedforward` (R124). -/
def execPidSetFeedforward (dev : Byte) (loop : BitVec 2) (value : F) (s : State) : Out :=
  onLoop dev loop s (fun l => succeed 0 (s.modLoop dev.toNat l (fun p => { p with feedforward := value })))

/-- `pid.set_gains` (R125). -/
def execPidSetGains (dev : Byte) (loop : BitVec 2) (kp ki kd : F) (s : State) : Out :=
  onLoop dev loop s (fun l =>
    succeed 0 (s.modLoop dev.toNat l (fun p => { p with kp := kp, ki := ki, kd := kd })))

/-- `pid.set_limits` (R126). -/
def execPidSetLimits (dev : Byte) (loop : BitVec 2) (max min : F) (s : State) : Out :=
  onLoop dev loop s (fun l =>
    succeed 0 (s.modLoop dev.toNat l (fun p => { p with max := max, min := min, lim := limitOf s.cfg max min })))

/-- `pid.step` (R128). -/
def execPidStep (dev : Byte) (loop : BitVec 2) (s : State) : Out :=
  onLoop dev loop s (fun l => succeed 0 (s.modLoop dev.toNat l (pidStep s.cfg.num s.nan)))

/-- `pid.output` (R130). -/
def execPidOutput (dev : Byte) (loop : BitVec 2) (s : State) : Out :=
  onLoop dev loop s (fun l => succeed (s.loop dev.toNat l).out0 s)

/-- `pid.clear` (R127). -/
def execPidClear (dev : Byte) (loop : BitVec 2) (s : State) : Out :=
  onLoop dev loop s (fun l => succeed 0 (s.modLoop dev.toNat l zeroBuffers))

end Sys2Proof.Machine
end

