-- ==== Sys2Proof/Machine/Cascades.lean ====
section
/-! DEFINITION. The Motor Cascade (42_cascade.md): the chained calculation, the six setters and the `cas.*` commands. -/

namespace Sys2Proof.Machine

/-- The three families of operating modes (R140). -/
inductive Family where
  | current | velocity | position
  deriving DecidableEq, Repr

/-- `Family(opmode)` (R140). -/
def OpMode.family : OpMode → Family
  | .currentMode | .currentFFMode => .current
  | .velocityMode | .velocityFFMode => .velocity
  | .positionMode | .positionFFMode => .position

/-- The three loops of one calculation draw their NaNs at sites of their own. -/
def loopSites (nan : Nat → F) (l : Loop) (site : Nat) : F :=
  match l with
  | .pos => nan site
  | .vel => nan (32 + site)
  | .cur => nan (64 + site)

/-- `Step(P[c][POS])`, and its output becomes the velocity loop's setpoint (R142). -/
def stagePos (m : Num) (nan : Nat → F) (c : Cascade) : Cascade :=
  let p := pidStep m (loopSites nan .pos) c.pos
  { c with pos := p, vel := { c.vel with setpoint := p.out0 } }

/-- `Step(P[c][VEL])`, and its output becomes the current loop's setpoint (R142). -/
def stageVel (m : Num) (nan : Nat → F) (c : Cascade) : Cascade :=
  let p := pidStep m (loopSites nan .vel) c.vel
  { c with vel := p, cur := { c.cur with setpoint := p.out0 } }

/-- `Step(P[c][CUR])` (R142). -/
def stageCur (m : Num) (nan : Nat → F) (c : Cascade) : Cascade :=
  { c with cur := pidStep m (loopSites nan .cur) c.cur }

/-- `Calculate(c)` (R142): the stages of the family, chained by fallthrough. -/
def calculate (m : Num) (nan : Nat → F) (c : Cascade) : Cascade :=
  match c.opmode.family with
  | .position => stageCur m nan (stageVel m nan (stagePos m nan c))
  | .velocity => stageCur m nan (stageVel m nan c)
  | .current => stageCur m nan c

/-- `cas.set_mode` on one cascade (R141): the buffers of all three loops are zeroed even when the mode stays. -/
def switchMode (m : OpMode) (c : Cascade) : Cascade :=
  { opmode := m, pos := zeroBuffers c.pos, vel := zeroBuffers c.vel, cur := zeroBuffers c.cur }

/-- The shared body of the six setters (R143 to R148): accepted in exactly one mode, on the outermost loop of that mode. -/
def setOutermost (dev : Byte) (mode : OpMode) (l : Loop) (f : PidState → PidState) (s : State) : Out :=
  onCascade dev s
    (if (s.cascade dev.toNat).opmode = mode then succeed 0 (s.modLoop dev.toNat l f) else failWith .modeMismatch s)

/-- `cas.set_mode` (R141). -/
def execCasSetMode (dev : Byte) (opmode : Byte) (s : State) : Out :=
  match OpMode.ofImm opmode with
  | none => illegal s
  | some m => onCascade dev s (succeed 0 (s.modCascade dev.toNat (switchMode m)))

/-- `cas.calculate` (R142). -/
def execCasCalculate (dev : Byte) (s : State) : Out :=
  onCascade dev s
    (let t := s.modCascade dev.toNat (calculate s.cfg.num s.nan)
     succeed (t.loop dev.toNat .cur).out0 t)

/-- `cas.set_current` (R143). -/
def execCasSetCurrent (dev : Byte) (value : F) (s : State) : Out :=
  setOutermost dev .currentMode .cur (fun p => { p with setpoint := value }) s

/-- `cas.set_velocity` (R144). -/
def execCasSetVelocity (dev : Byte) (value : F) (s : State) : Out :=
  setOutermost dev .velocityMode .vel (fun p => { p with setpoint := value }) s

/-- `cas.set_position` (R145). -/
def execCasSetPosition (dev : Byte) (value : F) (s : State) : Out :=
  setOutermost dev .positionMode .pos (fun p => { p with setpoint := value }) s

/-- `cas.set_current_ff` (R146). -/
def execCasSetCurrentFf (dev : Byte) (value ff : F) (s : State) : Out :=
  setOutermost dev .currentFFMode .cur (fun p => { p with setpoint := value, feedforward := ff }) s

/-- `cas.set_velocity_ff` (R147). -/
def execCasSetVelocityFf (dev : Byte) (value ff : F) (s : State) : Out :=
  setOutermost dev .velocityFFMode .vel (fun p => { p with setpoint := value, feedforward := ff }) s

/-- `cas.set_position_ff` (R148). -/
def execCasSetPositionFf (dev : Byte) (value ff : F) (s : State) : Out :=
  setOutermost dev .positionFFMode .pos (fun p => { p with setpoint := value, feedforward := ff }) s

end Sys2Proof.Machine
end

