-- ==== Sys2Proof/Machine/Registry.lean ====
section
/-! DEFINITION. The Actuator Registry (43_registry.md): the field table of 10_state.md R47 and the two `reg.*` commands. -/

namespace Sys2Proof.Machine

/-- The numbers of the flags (R36, R38, R45). -/
def Live.code : Live → Word
  | .offline => 0
  | .online => 1

def Ack.code : Ack → Word
  | .clear => 0
  | .success => 1
  | .fail => 2

def Phase.code : Phase → Word
  | .idle => 0
  | .awaitingAck => 1
  | .acked => 2
  | .failed => 3
  | .timedOut => 4

/-- The fields of a record in the order of R47, each as the word `reg.read` returns: an `F` field its 32 bits, a narrower one
zero-extended, the slot's bytes with the lowest index in the top byte (R162, R63). -/
def fieldWords (id : Nat) (r : ActuatorRecord) : List Word :=
  [BitVec.ofNat 32 id, r.live.code, r.failCnt.setWidth 32, r.ack.code, (if r.fresh then 1 else 0), r.phase.code,
   r.power.setWidth 32, r.runMode.setWidth 32,
   r.current, r.speed, r.position, r.motorTemp, r.inverterTemp,
   r.curOutUpper, r.curOutLower, r.spdOutUpper, r.spdOutLower, r.posOutUpper, r.posOutLower,
   r.travelUpper, r.travelLower, r.profileSpeed, r.profileAccel, r.profileDecel,
   r.cmdCurrent, r.cmdSpeed, r.cmdPosition,
   r.shutdown.setWidth 32, r.exception.setWidth 32,
   r.rx.dlc.setWidth 32,
   wordOfBytes r.rx.d.d0 r.rx.d.d1 r.rx.d.d2 r.rx.d.d3, wordOfBytes r.rx.d.d4 r.rx.d.d5 r.rx.d.d6 r.rx.d.d7]

/-- `reg.find` (R161). -/
def execRegFind (dev : Byte) (s : State) : Out :=
  onDevice dev s (fun k => succeed (BitVec.ofNat 32 k) s)

/-- `reg.read` (R162): the field number is checked before the device (R233). -/
def execRegRead (dev : Byte) (field : Byte) (s : State) : Out :=
  if 31 < field.toNat then illegal s
  else onDevice dev s (fun k => succeed ((fieldWords (s.devId k) (s.dev k)).getD field.toNat 0) s)

end Sys2Proof.Machine
end

