-- ==== Sys2Proof/Machine/Engine.lean ====
section
/-! DEFINITION. The Actuator Protocol Engine (44_protocol_engine.md): the frame builder, the steps `S1`, `S2`, `S3`, the poll, `S5`
and `S5a` of `SendCommand` and the wait (20_memory.md R67), and what each multi-exchange command does between its exchanges. The
step `S4` runs the meaning of the frame kind that stands in the receive slot, and is in Machine/Step.lean. -/

namespace Sys2Proof.Machine

/-! ### Building frames -/

/-- The payload of a request (R171). -/
inductive Payload where
  | none
  | byte (b : Byte)
  | q24 (v : F)
  deriving DecidableEq, Repr

/-- `BuildFrame(kind, payload)` (R171): the bytes, their number being the `dlc`. -/
def buildFrame (c : Cfg) (draw : Word) (kind : FrameKind) : Payload → List Byte
  | .none => [c.opcode kind]
  | .byte b => [c.opcode kind, b]
  | .q24 v =>
    let w := q24Encode c.num draw v
    [c.opcode kind, byteOfWord w 0, byteOfWord w 1, byteOfWord w 2, byteOfWord w 3]

/-- How many exchanges a command makes (R209, R210, R215). -/
def Call.exchanges : Call → Nat
  | .setMode _ | .setPower _ => 2
  | .driveCycle => 4
  | _ => 1

/-- The request that `drive_cycle` builds in each of its four exchanges (R215); `u` is the cascade's current command. -/
def driveRequest (u : F) : Nat → FrameKind × Payload
  | 0 => (.getCurrent, .none)
  | 1 => (.getSpeed, .none)
  | 2 => (.getPosition, .none)
  | _ => (.setCurrent, .q24 u)

/-- The bytes of the frame that a command transmits in an exchange (R201 to R215). -/
def frameBytes (s : State) (call : Call) (x k : Nat) : List Byte :=
  let build (r : FrameKind × Payload) := buildFrame s.cfg (Config.q24Draw s.draws) r.1 r.2
  match call with
  | .handshake => build (.handshake, .none)
  | .get kind => build (kind, .none)
  | .setCurrent v => build (.setCurrent, .q24 v)
  | .setSpeed v => build (.setSpeed, .q24 v)
  | .setPosition v => build (.setPosition, .q24 v)
  | .setMode m => build (if x = 0 then (.setMode, .byte m) else (.getMode, .none))
  | .setPower p => build (if x = 0 then (.setPower, .byte p) else (.getPower, .none))
  | .setLimit kind v => build (kind, .q24 v)
  | .send dlc d => d.toList.take dlc
  | .driveCycle => build (driveRequest (s.loop k .cur).out0 x)

/-- The last-commanded write that goes with a transmitted frame (R205, R67). -/
def noteCommanded (s : State) (call : Call) (x k : Nat) (r : ActuatorRecord) : ActuatorRecord :=
  match call with
  | .setCurrent v => { r with cmdCurrent := v }
  | .setSpeed v => { r with cmdSpeed := v }
  | .setPosition v => { r with cmdPosition := v }
  | .driveCycle => if x = 3 then { r with cmdCurrent := (s.loop k .cur).out0 } else r
  | _ => r

/-! ### The steps of an exchange -/

/-- The executor goes on at a point of the exchange in progress. -/
def State.goTo (s : State) (call : Call) (x : Nat) (p : Point) (k n : Nat) : State :=
  { s with seq := .busy call x p k n }

/-- `S1` (R172): sample `BusFree()`; `BusBusy` leaves every register as it was. -/
def sampleBus (call : Call) (x k : Nat) (s : State) : State :=
  if s.busFreeAnswer then s.askBusFree.goTo call x .s2 k 0 else s.askBusFree.respond .busBusy 0

/-- `S2` (R172). -/
def clearStep (call : Call) (x k : Nat) (s : State) : State :=
  (s.modDev k clearFlags).goTo call x .s3 k 0

/-- `S3` (R172): hand the frame to the bus; on `Err` the phase is Idle and the command ends, on `Ok` the wait begins with no poll
made. -/
def transmitStep (call : Call) (x k : Nat) (s : State) : State :=
  let t := s.handToBus ⟨s.devId k, frameBytes s call x k⟩
  if s.busTxAnswer then
    (t.modDev k (fun r => noteCommanded s call x k (setPhase .awaitingAck r))).goTo call x .poll k 0
  else (t.modDev k (setPhase .idle)).respond .transmitFailure 0

/-- One poll of the wait, number `n + 1` (R173): the flag is tested before the count. -/
def pollStep (call : Call) (x k n : Nat) (s : State) : State :=
  if (s.dev k).fresh then s.goTo call x .s4 k (n + 1)
  else if n + 1 < s.cfg.timeoutIters then s.goTo call x .poll k (n + 1)
  else s.goTo call x .s5a k (n + 1)

/-- `S5a` (R172): the wait was exhausted. -/
def exhaustedStep (k : Nat) (s : State) : State := (s.modDev k (timeOut s.cfg)).respond .ackTimeout 0

/-- The feedback of the three loops from the telemetry of record `k` (R215). -/
def pushFeedback (r : ActuatorRecord) (c : Cascade) : Cascade :=
  { c with
    cur := { c.cur with feedback := r.current }
    vel := { c.vel with feedback := r.speed }
    pos := { c.pos with feedback := r.position } }

/-- The work of `drive_cycle` between its third and fourth exchange (R215): push the feedback, calculate, check the range. -/
def driveCascade (k : Nat) (s : State) : State :=
  let t := s.modCascade k (fun c => calculate s.cfg.num s.nan (pushFeedback (s.dev k) c))
  if inUnit s.cfg.num (t.loop k .cur).out0 then t.goTo .driveCycle 3 .s1 k 0 else t.respond .outOfRange 0

/-- What a command does when an exchange has succeeded: the next exchange, or the end (R209, R210, R215). -/
def afterSuccess (call : Call) (x k : Nat) (s : State) : State :=
  match call with
  | .setMode m =>
    if x = 0 then s.goTo call 1 .s1 k 0
    else if (s.dev k).runMode = m then s.respond .success 0 else s.respond .ackFailure 0
  | .setPower p =>
    if x = 0 then s.goTo call 1 .s1 k 0
    else if (s.dev k).power = p then s.respond .success 0 else s.respond .ackFailure 0
  | .driveCycle =>
    if x < 2 then s.goTo call (x + 1) .s1 k 0
    else if x = 2 then driveCascade k s
    else s.respond .success (s.loop k .cur).out0
  | _ => s.respond .success 0

/-- `S5` (R172): by `ack`, write the phase and the bookkeeping, and go on or end; the work between exchanges is merged into this
step (R67). -/
def settleStep (call : Call) (x k : Nat) (s : State) : State :=
  let t := s.modDev k (settle s.cfg)
  match (s.dev k).ack with
  | .success => afterSuccess call x k t
  | .fail => t.respond .ackFailure 0
  | .clear => t.respond .ackTimeout 0

end Sys2Proof.Machine
end

