-- ==== Sys2Proof/Machine/Calls.lean ====
section
/-! DEFINITION. The protocol calls and `drive_cycle` (45_protocol_calls.md). The meaning of each is its first executor step: the
checks of R200 in order and, when they pass, `S1` of the first exchange, with which they are merged (R67). The steps that follow
are those of Machine/Engine.lean, driven by `seq`. -/

namespace Sys2Proof.Machine

/-- Start a command's first exchange on device `k` (R172 `S1`). -/
def start (call : Call) (k : Nat) (s : State) : Out := .next (sampleBus call 0 k s)

/-- The shared body of the three value setters (R205 to R208): lookup, then the range check, then the exchange. -/
def setChecked (dev : Byte) (ok : Bool) (call : Call) (s : State) : Out :=
  onDevice dev s (fun k => if ok then start call k s else failWith .outOfRange s)

/-- `act.handshake` (R201). -/
def execActHandshake (dev : Byte) (s : State) : Out := onDevice dev s (fun k => start .handshake k s)

/-- `act.get` (R202). -/
def execActGet (dev : Byte) (kind : Byte) (s : State) : Out :=
  match getKind kind with
  | none => illegal s
  | some fk => onDevice dev s (fun k => start (.get fk) k s)

/-- `act.set_current` (R206). -/
def execActSetCurrent (dev : Byte) (value : F) (s : State) : Out :=
  setChecked dev (inUnit s.cfg.num value) (.setCurrent value) s

/-- `act.set_speed` (R207). -/
def execActSetSpeed (dev : Byte) (value : F) (s : State) : Out :=
  setChecked dev (inUnit s.cfg.num value) (.setSpeed value) s

/-- `act.set_position` (R208). -/
def execActSetPosition (dev : Byte) (value : F) (s : State) : Out :=
  setChecked dev (inPos s.cfg.num value) (.setPosition value) s

/-- `act.set_mode` (R209). -/
def execActSetMode (dev : Byte) (mode : Byte) (s : State) : Out :=
  onDevice dev s (fun k => start (.setMode mode) k s)

/-- `act.set_power` (R210). -/
def execActSetPower (dev : Byte) (power : Byte) (s : State) : Out :=
  onDevice dev s (fun k => start (.setPower power) k s)

/-- `act.set_limit` (R211): no range check on the value. -/
def execActSetLimit (dev : Byte) (kind : Byte) (value : F) (s : State) : Out :=
  match limitKind kind with
  | none => illegal s
  | some fk => onDevice dev s (fun k => start (.setLimit fk value) k s)

/-- `act.send` (R212): the bytes go out as given. -/
def execActSend (dev : Byte) (dlc : Byte) (a b : Word) (s : State) : Out :=
  if dlc = 0 ∨ 8 < dlc.toNat then illegal s
  else onDevice dev s (fun k => start (.send dlc.toNat (.ofWords a b)) k s)

/-- `drive_cycle` (R215): its operand is a cascade index, also used as the registry index. -/
def execDriveCycle (dev : Byte) (s : State) : Out := onCascade dev s (start .driveCycle dev.toNat s)

end Sys2Proof.Machine
end

