-- ==== Sys2Proof/Machine/Frames.lean ====
section
/-! DEFINITION. The frame kinds (30_encoding.md R92): what decoding an answer of each kind writes into the record of the device that
the executor waits for (44_protocol_engine.md R178 to R186). Decoding happens at `S4` only; a frame that stands in a slot at any
other time is never decoded (R52, R178), so there the meaning leaves the state as it is. -/

namespace Sys2Proof.Machine

/-- The device whose slot is being decoded: the one waited on, at `S4`. -/
def State.decoding (s : State) : Option Nat :=
  match s.seq with
  | .busy _ _ .s4 k _ => some k
  | _ => none

/-- `Decode(k)` writes into the record of the device being waited on, and nothing else (R178). -/
def decodeInto (f : ActuatorRecord → ActuatorRecord) (s : State) : Out :=
  match s.decoding with
  | some k => .next (s.modDev k f)
  | none => .next s

/-- The STATUS class (R179): `ack` from the status byte `d[1]`, whatever the length. -/
def decodeStatus (ans : Answer) (s : State) : Out :=
  decodeInto (fun r => { r with ack := ackOfStatus s.cfg ans.d1 }) s

/-- The Q24 class (R181, R182): with `dlc` = 5 the field takes the decoded word and `ack` is Success; otherwise nothing is written. -/
def decodeQ24 (field : F → ActuatorRecord → ActuatorRecord) (ans : Answer) (s : State) : Out :=
  decodeInto (fun r => if ans.dlc = 5 then { field (q24Decode s.cfg.num (answerWord ans)) r with ack := .success } else r) s

/-- The T8 class (R183): no length check. -/
def decodeT8 (field : F → ActuatorRecord → ActuatorRecord) (ans : Answer) (s : State) : Out :=
  decodeInto (fun r => { field (t8Decode s.cfg.num (answerRaw ans)) r with ack := .success }) s

/-- The BYTE class (R184): no length check and no check of the value. -/
def decodeByte (field : Byte → ActuatorRecord → ActuatorRecord) (ans : Answer) (s : State) : Out :=
  decodeInto (fun r => { field ans.d1 r with ack := .success }) s

/-- A `HANDSHAKE` answer (R179). -/
def execHandshake (ans : Answer) (s : State) : Out := decodeStatus ans s

/-- A `GET_CURRENT` answer (R181, R182). -/
def execGetCurrent (ans : Answer) (s : State) : Out :=
  decodeQ24 (fun v r => { r with current := v }) ans s

/-- A `GET_SPEED` answer (R181, R182). -/
def execGetSpeed (ans : Answer) (s : State) : Out :=
  decodeQ24 (fun v r => { r with speed := v }) ans s

/-- A `GET_POSITION` answer (R181, R182). -/
def execGetPosition (ans : Answer) (s : State) : Out :=
  decodeQ24 (fun v r => { r with position := v }) ans s

/-- A `SET_CURRENT` answer (R179). -/
def execSetCurrent (ans : Answer) (s : State) : Out := decodeStatus ans s

/-- A `SET_SPEED` answer (R179). -/
def execSetSpeed (ans : Answer) (s : State) : Out := decodeStatus ans s

/-- A `SET_POSITION` answer (R179). -/
def execSetPosition (ans : Answer) (s : State) : Out := decodeStatus ans s

/-- A `GET_MODE` answer (R184). -/
def execGetMode (ans : Answer) (s : State) : Out :=
  decodeByte (fun v r => { r with runMode := v }) ans s

/-- A `SET_MODE` answer (R179). -/
def execSetMode (ans : Answer) (s : State) : Out := decodeStatus ans s

/-- A `GET_POWER` answer (R184). -/
def execGetPower (ans : Answer) (s : State) : Out :=
  decodeByte (fun v r => { r with power := v }) ans s

/-- A `SET_POWER` answer (R179). -/
def execSetPower (ans : Answer) (s : State) : Out := decodeStatus ans s

/-- A `GET_CUR_OUT_UPPER` answer (R181, R182). -/
def execGetCurOutUpper (ans : Answer) (s : State) : Out :=
  decodeQ24 (fun v r => { r with curOutUpper := v }) ans s

/-- A `GET_CUR_OUT_LOWER` answer (R181, R182). -/
def execGetCurOutLower (ans : Answer) (s : State) : Out :=
  decodeQ24 (fun v r => { r with curOutLower := v }) ans s

/-- A `GET_SPD_OUT_UPPER` answer (R181, R182). -/
def execGetSpdOutUpper (ans : Answer) (s : State) : Out :=
  decodeQ24 (fun v r => { r with spdOutUpper := v }) ans s

/-- A `GET_SPD_OUT_LOWER` answer (R181, R182). -/
def execGetSpdOutLower (ans : Answer) (s : State) : Out :=
  decodeQ24 (fun v r => { r with spdOutLower := v }) ans s

/-- A `GET_POS_OUT_UPPER` answer (R181, R182). -/
def execGetPosOutUpper (ans : Answer) (s : State) : Out :=
  decodeQ24 (fun v r => { r with posOutUpper := v }) ans s

/-- A `GET_POS_OUT_LOWER` answer (R181, R182). -/
def execGetPosOutLower (ans : Answer) (s : State) : Out :=
  decodeQ24 (fun v r => { r with posOutLower := v }) ans s

/-- A `SET_CUR_OUT_UPPER` answer (R179). -/
def execSetCurOutUpper (ans : Answer) (s : State) : Out := decodeStatus ans s

/-- A `SET_CUR_OUT_LOWER` answer (R179). -/
def execSetCurOutLower (ans : Answer) (s : State) : Out := decodeStatus ans s

/-- A `SET_SPD_OUT_UPPER` answer (R179). -/
def execSetSpdOutUpper (ans : Answer) (s : State) : Out := decodeStatus ans s

/-- A `SET_SPD_OUT_LOWER` answer (R179). -/
def execSetSpdOutLower (ans : Answer) (s : State) : Out := decodeStatus ans s

/-- A `SET_POS_OUT_UPPER` answer (R179). -/
def execSetPosOutUpper (ans : Answer) (s : State) : Out := decodeStatus ans s

/-- A `SET_POS_OUT_LOWER` answer (R179). -/
def execSetPosOutLower (ans : Answer) (s : State) : Out := decodeStatus ans s

/-- A `GET_MOTOR_TEMP` answer (R183). -/
def execGetMotorTemp (ans : Answer) (s : State) : Out :=
  decodeT8 (fun v r => { r with motorTemp := v }) ans s

/-- A `GET_INVERTER_TEMP` answer (R183). -/
def execGetInverterTemp (ans : Answer) (s : State) : Out :=
  decodeT8 (fun v r => { r with inverterTemp := v }) ans s

/-- A `GET_PROFILE_SPEED` answer (R181, R182). -/
def execGetProfileSpeed (ans : Answer) (s : State) : Out :=
  decodeQ24 (fun v r => { r with profileSpeed := v }) ans s

/-- A `GET_PROFILE_ACCEL` answer (R181, R182). -/
def execGetProfileAccel (ans : Answer) (s : State) : Out :=
  decodeQ24 (fun v r => { r with profileAccel := v }) ans s

/-- A `GET_PROFILE_DECEL` answer (R181, R182). -/
def execGetProfileDecel (ans : Answer) (s : State) : Out :=
  decodeQ24 (fun v r => { r with profileDecel := v }) ans s

/-- A `GET_TRAVEL_UPPER` answer (R181, R182). -/
def execGetTravelUpper (ans : Answer) (s : State) : Out :=
  decodeQ24 (fun v r => { r with travelUpper := v }) ans s

/-- A `GET_TRAVEL_LOWER` answer (R181, R182). -/
def execGetTravelLower (ans : Answer) (s : State) : Out :=
  decodeQ24 (fun v r => { r with travelLower := v }) ans s

/-- A `GET_EXCEPTIONS` answer (R184). -/
def execGetExceptions (ans : Answer) (s : State) : Out :=
  decodeByte (fun v r => { r with exception := v }) ans s

/-- A `GET_SHUTDOWN_STATE` answer (R184). -/
def execGetShutdownState (ans : Answer) (s : State) : Out :=
  decodeByte (fun v r => { r with shutdown := v }) ans s

end Sys2Proof.Machine
end

