-- ==== Sys2Proof/Machine/Dispatch.lean ====
section
/-! DEFINITION. The dispatch of an instruction to its meaning, one arm per constructor. -/

namespace Sys2Proof.Machine

def exec (i : Instr) (s : State) : Host.Outcome State Fault Refusal :=
  match i with
  | .pidConfigure dev loop mode kp ki kd => Sys2Proof.Machine.execPidConfigure dev loop mode kp ki kd s
  | .pidSetSetpoint dev loop value => Sys2Proof.Machine.execPidSetSetpoint dev loop value s
  | .pidSetFeedback dev loop value => Sys2Proof.Machine.execPidSetFeedback dev loop value s
  | .pidSetFeedforward dev loop value => Sys2Proof.Machine.execPidSetFeedforward dev loop value s
  | .pidSetGains dev loop kp ki kd => Sys2Proof.Machine.execPidSetGains dev loop kp ki kd s
  | .pidSetLimits dev loop max min => Sys2Proof.Machine.execPidSetLimits dev loop max min s
  | .pidStep dev loop => Sys2Proof.Machine.execPidStep dev loop s
  | .pidOutput dev loop => Sys2Proof.Machine.execPidOutput dev loop s
  | .pidClear dev loop => Sys2Proof.Machine.execPidClear dev loop s
  | .casSetMode dev opmode => Sys2Proof.Machine.execCasSetMode dev opmode s
  | .casCalculate dev => Sys2Proof.Machine.execCasCalculate dev s
  | .casSetCurrent dev value => Sys2Proof.Machine.execCasSetCurrent dev value s
  | .casSetVelocity dev value => Sys2Proof.Machine.execCasSetVelocity dev value s
  | .casSetPosition dev value => Sys2Proof.Machine.execCasSetPosition dev value s
  | .casSetCurrentFf dev value ff => Sys2Proof.Machine.execCasSetCurrentFf dev value ff s
  | .casSetVelocityFf dev value ff => Sys2Proof.Machine.execCasSetVelocityFf dev value ff s
  | .casSetPositionFf dev value ff => Sys2Proof.Machine.execCasSetPositionFf dev value ff s
  | .q24Encode value => Sys2Proof.Machine.execQ24Encode value s
  | .q24Decode word => Sys2Proof.Machine.execQ24Decode word s
  | .t8Encode value => Sys2Proof.Machine.execT8Encode value s
  | .t8Decode raw => Sys2Proof.Machine.execT8Decode raw s
  | .regFind dev => Sys2Proof.Machine.execRegFind dev s
  | .regRead dev field => Sys2Proof.Machine.execRegRead dev field s
  | .actHandshake dev => Sys2Proof.Machine.execActHandshake dev s
  | .actGet dev kind => Sys2Proof.Machine.execActGet dev kind s
  | .actSetCurrent dev value => Sys2Proof.Machine.execActSetCurrent dev value s
  | .actSetSpeed dev value => Sys2Proof.Machine.execActSetSpeed dev value s
  | .actSetPosition dev value => Sys2Proof.Machine.execActSetPosition dev value s
  | .actSetMode dev mode => Sys2Proof.Machine.execActSetMode dev mode s
  | .actSetPower dev power => Sys2Proof.Machine.execActSetPower dev power s
  | .actSetLimit dev kind value => Sys2Proof.Machine.execActSetLimit dev kind value s
  | .actSend dev dlc a b => Sys2Proof.Machine.execActSend dev dlc a b s
  | .driveCycle dev => Sys2Proof.Machine.execDriveCycle dev s
  | .handshake ans => Sys2Proof.Machine.execHandshake ans s
  | .getCurrent ans => Sys2Proof.Machine.execGetCurrent ans s
  | .getSpeed ans => Sys2Proof.Machine.execGetSpeed ans s
  | .getPosition ans => Sys2Proof.Machine.execGetPosition ans s
  | .setCurrent ans => Sys2Proof.Machine.execSetCurrent ans s
  | .setSpeed ans => Sys2Proof.Machine.execSetSpeed ans s
  | .setPosition ans => Sys2Proof.Machine.execSetPosition ans s
  | .getMode ans => Sys2Proof.Machine.execGetMode ans s
  | .setMode ans => Sys2Proof.Machine.execSetMode ans s
  | .getPower ans => Sys2Proof.Machine.execGetPower ans s
  | .setPower ans => Sys2Proof.Machine.execSetPower ans s
  | .getCurOutUpper ans => Sys2Proof.Machine.execGetCurOutUpper ans s
  | .getCurOutLower ans => Sys2Proof.Machine.execGetCurOutLower ans s
  | .getSpdOutUpper ans => Sys2Proof.Machine.execGetSpdOutUpper ans s
  | .getSpdOutLower ans => Sys2Proof.Machine.execGetSpdOutLower ans s
  | .getPosOutUpper ans => Sys2Proof.Machine.execGetPosOutUpper ans s
  | .getPosOutLower ans => Sys2Proof.Machine.execGetPosOutLower ans s
  | .setCurOutUpper ans => Sys2Proof.Machine.execSetCurOutUpper ans s
  | .setCurOutLower ans => Sys2Proof.Machine.execSetCurOutLower ans s
  | .setSpdOutUpper ans => Sys2Proof.Machine.execSetSpdOutUpper ans s
  | .setSpdOutLower ans => Sys2Proof.Machine.execSetSpdOutLower ans s
  | .setPosOutUpper ans => Sys2Proof.Machine.execSetPosOutUpper ans s
  | .setPosOutLower ans => Sys2Proof.Machine.execSetPosOutLower ans s
  | .getMotorTemp ans => Sys2Proof.Machine.execGetMotorTemp ans s
  | .getInverterTemp ans => Sys2Proof.Machine.execGetInverterTemp ans s
  | .getProfileSpeed ans => Sys2Proof.Machine.execGetProfileSpeed ans s
  | .getProfileAccel ans => Sys2Proof.Machine.execGetProfileAccel ans s
  | .getProfileDecel ans => Sys2Proof.Machine.execGetProfileDecel ans s
  | .getTravelUpper ans => Sys2Proof.Machine.execGetTravelUpper ans s
  | .getTravelLower ans => Sys2Proof.Machine.execGetTravelLower ans s
  | .getExceptions ans => Sys2Proof.Machine.execGetExceptions ans s
  | .getShutdownState ans => Sys2Proof.Machine.execGetShutdownState ans s

end Sys2Proof.Machine
end

