-- ==== Sys2Proof/Machine/Step.lean ====
section
/-! DEFINITION. One step of the machine (20_memory.md R66 to R68): at each moment exactly one agent takes one atomic step. The head of
`inputs` says who moves: the notifier, the host or reset; at a `tick`, or when `inputs` is empty, the executor moves. -/

namespace Sys2Proof.Machine

/-- `S4` (R172, R178): the frame in the slot of the device waited on is decoded to an instruction, whose meaning runs; a frame that
is no instruction writes nothing (R185). Then `S5` is next. -/
def decodeStep (call : Call) (x k n : Nat) (s : State) : Out :=
  match decodeFrame s.cfg (s.dev k).rx.dlc (s.dev k).rx.d with
  | .error _ => .next (s.goTo call x .s5 k n)
  | .ok i =>
    match exec i s with
    | .next t => .next (t.goTo call x .s5 k n)
    | .fault r => .fault r
    | .refused r => .refused r

/-- One step of the executor (R67). With no command running it does nothing. -/
def executorStep (s : State) : Out :=
  match s.seq with
  | .ready => .next s
  | .busy call x .s1 k _ => .next (sampleBus call x k s)
  | .busy call x .s2 k _ => .next (clearStep call x k s)
  | .busy call x .s3 k _ => .next (transmitStep call x k s)
  | .busy call x .poll k n => .next (pollStep call x k n s)
  | .busy call x .s4 k n => decodeStep call x k n s
  | .busy call x .s5 k _ => .next (settleStep call x k s)
  | .busy _ _ .s5a k _ => .next (exhaustedStep k s)

/-- The host presents a command (R85, R244): while the core is busy it is not accepted and has no effect; otherwise it runs if it
decodes, and is illegal (R87) if it does not. -/
def acceptCommand (cmd : BitVec 128) (s : State) : Out :=
  match s.seq with
  | .busy _ _ _ _ _ => .next s
  | .ready =>
    match decodeHost cmd with
    | .ok i => exec i (s.record (.command cmd))
    | .error _ => illegal (s.record (.command cmd))

/-- One step. -/
def step (s : State) : Host.Outcome State Fault Refusal :=
  match s.inputs with
  | [] => executorStep (s.begin [])
  | .tick :: rest => executorStep (s.begin rest)
  | .command cmd :: rest => acceptCommand cmd (s.begin rest)
  | .arrival a :: rest => notify a (s.begin rest)
  | .reset :: rest => .next (s.begin rest).applyReset

/-- `s` with an instruction of the opcode table where the next step takes it: a host command (a row of more than 16 bits) at the
head of the host's port with the executor `Ready`, a frame (a row of 8 bits) in the receive slot of device 0 with the executor at
`S4` on that device. -/
def State.withFetchWord (s : State) (nbits w : Nat) : State :=
  if nbits ≤ 16 then
    { s.modDev 0 (fun r => { r with rx := ⟨(tableFrame s.cfg w).1, (tableFrame s.cfg w).2⟩ }) with
      seq := .busy .handshake 0 .s4 0 1, inputs := .tick :: s.inputs }
  else { s with seq := .ready, inputs := .command (BitVec.ofNat 128 w) :: s.inputs }

end Sys2Proof.Machine
end

