-- ==== Sys2Proof/Safety.lean ====
section
/-! DEFINITION. What counts as a good state and a good run of the core, in the terms the statements use. -/

namespace Sys2Proof.Machine

/-- The limits tag is the one `pid.set_limits` computes from the limits (R126, R28), or the limits were never set (R53, R264). -/
def PidState.limitsTagged (g : Cfg) (p : PidState) : Prop :=
  p.lim = limitOf g p.max p.min ∨ (p.max = fZero ∧ p.min = fZero ∧ p.lim = .unlimited)

/-- The same for the three loops of a cascade. -/
def Cascade.limitsTagged (g : Cfg) (c : Cascade) : Prop :=
  c.pos.limitsTagged g ∧ c.vel.limitsTagged g ∧ c.cur.limitsTagged g

/-- The executor has transmitted to device `k` and has not settled the exchange: exactly then is the phase AwaitingAck (R174). -/
def Seq.awaits (q : Seq) (k : Nat) : Prop :=
  match q with
  | .ready => False
  | .busy _ _ p k' _ => k' = k ∧ (p = .poll ∨ p = .s4 ∨ p = .s5 ∨ p = .s5a)

/-- The flags of device `k` have been cleared by `S2` and not yet settled. -/
def Seq.inFlight (q : Seq) (k : Nat) : Prop :=
  q.awaits k ∨ ∃ call x n, q = .busy call x .s3 k n

/-- `ack` is Clear between `S2` and the decode (R172). -/
def Seq.holdsClear (q : Seq) (k : Nat) : Prop :=
  ∃ call x p n, q = .busy call x p k n ∧ (p = .s3 ∨ p = .poll ∨ p = .s4 ∨ p = .s5a)

/-- Outside an exchange the phase tells the `ack` that ended the last one (R174, R231). -/
def ActuatorRecord.settled (r : ActuatorRecord) : Prop :=
  match r.phase with
  | .idle => r.ack = .clear
  | .awaitingAck => False
  | .acked => r.ack = .success
  | .failed => r.ack = .fail
  | .timedOut => r.ack = .clear

/-- The operands of a command in progress are the ones its checks admitted (R200, R203, R215). -/
def State.callOk (s : State) (call : Call) (x k : Nat) : Prop :=
  match call with
  | .get kind => kind ∈ getKinds
  | .setCurrent v => inUnit s.cfg.num v = true
  | .setSpeed v => inUnit s.cfg.num v = true
  | .setPosition v => inPos s.cfg.num v = true
  | .setLimit kind _ => kind ∈ limitKinds
  | .send dlc _ => 1 ≤ dlc ∧ dlc ≤ 8
  | .driveCycle => x = 3 → inUnit s.cfg.num (s.loop k .cur).out0 = true
  | _ => True

/-- The sequencer's fields lie in their ranges (R50): a device of the registry, an exchange of the command, and at most
`TIMEOUT_ITERS` polls. -/
def State.seqOk (s : State) : Prop :=
  match s.seq with
  | .ready => True
  | .busy call x p k n =>
    k < s.cfg.nDev ∧ x < call.exchanges ∧ n ≤ s.cfg.timeoutIters ∧ (p = .poll → n < s.cfg.timeoutIters) ∧
    s.callOk call x k

/-- The invariant of the core: what holds at reset and after every step, whatever the outside does. -/
structure State.Inv (s : State) : Prop where
  cfg : s.cfg.wf = true
  nCascades : s.cascades.length = s.cfg.nDev
  nDevs : s.devs.length = s.cfg.nDev
  limits : ∀ c ∈ s.cascades, c.limitsTagged s.cfg
  slots : ∀ r ∈ s.devs, r.rx.dlc.toNat ≤ 8
  liveness : ∀ r ∈ s.devs, r.live = .online → r.failCnt.toNat < s.cfg.offlineThreshold
  seq : s.seqOk
  awaiting : ∀ k, k < s.cfg.nDev → ((s.dev k).phase = .awaitingAck ↔ s.seq.awaits k)
  cleared : ∀ k, k < s.cfg.nDev → s.seq.holdsClear k → (s.dev k).ack = .clear
  settled : ∀ k, k < s.cfg.nDev → ¬ s.seq.inFlight k → (s.dev k).settled

/-- A run of `n` steps ends in a next state with a property. -/
def Reaches (n : Nat) (s : State) (P : State → Prop) : Prop := ∃ t, Sys2Proof.core.run n s = .next t ∧ P t

/-- The value of a finite binary32 word as a rational number. -/
def F32.value (a : F) : ℚ := (F32.toInt a : ℚ) / 2 ^ 149

/-- A word is a finite number. -/
def F32.isFinite (a : F) : Bool := !F32.isNaN a && !F32.isInf a

end Sys2Proof.Machine
end

