-- ==== Sys2Proof/Certificates/Slice0/Obligations.lean ====
section
/-! DEFINITION. The statements for the provers. Each is about the machine; the spec's pseudocode is restated here as relations over
the floating-point primitives, so that a statement holds for every value of the free NaNs. -/

namespace Sys2Proof.Spec

open Sys2Proof.Machine

/-! ### The numberings of the spec, row by row -/

/-- The loops by number (R12, R85). -/
def loopRows : List (BitVec 2 × Loop) := [(0, .pos), (1, .vel), (2, .cur)]

/-- The operating modes by number (R31). -/
def modeRows : List (Nat × OpMode) :=
  [(0, .currentMode), (1, .currentFFMode), (2, .velocityMode), (3, .velocityFFMode), (4, .positionMode), (5, .positionFFMode)]

/-- The parameter kinds of `act.get` by number (R95). -/
def getRows : List (Nat × FrameKind) :=
  [(0, .getCurrent), (1, .getSpeed), (2, .getPosition), (3, .getMode), (4, .getPower), (5, .getCurOutUpper),
   (6, .getCurOutLower), (7, .getSpdOutUpper), (8, .getSpdOutLower), (9, .getPosOutUpper), (10, .getPosOutLower),
   (11, .getMotorTemp), (12, .getInverterTemp), (13, .getProfileSpeed), (14, .getProfileAccel), (15, .getProfileDecel),
   (16, .getTravelUpper), (17, .getTravelLower), (18, .getExceptions), (19, .getShutdownState)]

/-- The limit kinds of `act.set_limit` by number (R95). -/
def limitRows : List (Nat × FrameKind) :=
  [(0, .setCurOutUpper), (1, .setCurOutLower), (2, .setSpdOutUpper), (3, .setSpdOutLower), (4, .setPosOutUpper),
   (5, .setPosOutLower)]

/-- The result codes (R230). -/
def resultRows : List (Result × Byte) :=
  [(.success, 0x00), (.deviceNotFound, 0x01), (.outOfRange, 0x02), (.busBusy, 0x03), (.transmitFailure, 0x04),
   (.ackTimeout, 0x05), (.ackFailure, 0x06), (.modeMismatch, 0x07), (.illegalCommand, 0x08)]

/-- The kinds of the STATUS class (R92, R179). -/
def statusKinds : List FrameKind :=
  [.handshake, .setMode, .setPower, .setCurrent, .setSpeed, .setPosition, .setCurOutUpper, .setCurOutLower, .setSpdOutUpper,
   .setSpdOutLower, .setPosOutUpper, .setPosOutLower]

/-- The kinds of the Q24 class (R92, R181). -/
def q24Kinds : List FrameKind :=
  [.getCurrent, .getSpeed, .getPosition, .getCurOutUpper, .getCurOutLower, .getSpdOutUpper, .getSpdOutLower, .getPosOutUpper,
   .getPosOutLower, .getProfileSpeed, .getProfileAccel, .getProfileDecel, .getTravelUpper, .getTravelLower]

/-! ### What a step or a command leaves -/

/-- It is the executor's turn, and `rest` is still to come at the ports: nothing happens there now, or nothing will any more. -/
def ExecutorMoves (s : State) (rest : List Input) : Prop := s.inputs = .tick :: rest ∨ (s.inputs = [] ∧ rest = [])

/-- The response port shows a result, as its number of R230, and a value. -/
def Shows (t : State) (r : Result) (v : Word) : Prop :=
  t.rsp = some ⟨r, v⟩ ∧ ∃ code, (r, code) ∈ resultRows ∧ t.hostResponse = some (code, v)

/-- The command ended with a result code and a value, shown at the response port and entered in the history. -/
def Ends (s t : State) (r : Result) (v : Word) : Prop :=
  t.seq = .ready ∧ Shows t r v ∧ t.history = .result ⟨r, v⟩ :: s.history

/-- A step of the executor, or an arrival, left the parameters and the bus answers as they are; `rest` is still to come. -/
def SamePorts (s t : State) (rest : List Input) : Prop :=
  t.cfg = s.cfg ∧ t.inputs = rest ∧ t.busFree = s.busFree ∧ t.busTx = s.busTx

/-- The parameters, the inputs still to come, the bus answers and the step counter are as before. -/
def SameOutside (s t : State) : Prop :=
  t.cfg = s.cfg ∧ t.inputs = s.inputs ∧ t.busFree = s.busFree ∧ t.busTx = s.busTx ∧ t.draws = s.draws

/-- Every register of the core but `seq` is as before. -/
def SameRegisters (s t : State) : Prop := t.cascades = s.cascades ∧ t.devs = s.devs

/-- Loop `l` of cascade `c` became `p`; every other loop, every operating mode and every record is as before. -/
def OnlyLoop (s t : State) (c : Nat) (l : Loop) (p : PidState) : Prop :=
  t.loop c l = p ∧ (∀ c' l', c' ≠ c ∨ l' ≠ l → t.loop c' l' = s.loop c' l') ∧
  (∀ c', (t.cascade c').opmode = (s.cascade c').opmode) ∧ t.devs = s.devs

/-- Cascade `c` became `m`; every other cascade and every record is as before. -/
def OnlyCascade (s t : State) (c : Nat) (m : Cascade) : Prop :=
  t.cascade c = m ∧ (∀ c', c' ≠ c → t.cascade c' = s.cascade c') ∧ t.devs = s.devs

/-- Record `k` became `r`; every other record and every cascade is as before. -/
def OnlyRecord (s t : State) (k : Nat) (r : ActuatorRecord) : Prop :=
  t.dev k = r ∧ (∀ j, j ≠ k → t.dev j = s.dev j) ∧ t.cascades = s.cascades

/-- A `pid.*` command ended in Success with value 0 and changed loop `l` of cascade `c` to `p` and nothing else. -/
def WritesLoop (o : Out) (s : State) (c : Nat) (l : Loop) (p : PidState) : Prop :=
  ∃ t, o = .next t ∧ OnlyLoop s t c l p ∧ Ends s t .success 0 ∧ SameOutside s t

/-- A command ended with a result and a value and changed no register. -/
def EndsUnchanged (o : Out) (s : State) (r : Result) (v : Word) : Prop :=
  ∃ t, o = .next t ∧ SameRegisters s t ∧ Ends s t r v ∧ SameOutside s t

/-! ### The PID step in the words of R128 and R129 -/

/-- `r` is a result of an operation whose partial core answers `o`: the value, or any NaN (R13, U8). -/
def FloatResult (o : Option F) (r : F) : Prop := o = some r ∨ (o = none ∧ F32.isNaN r = true)

def Fadd (m : Num) (a b r : F) : Prop := FloatResult (m.add? a b) r
def Fsub (m : Num) (a b r : F) : Prop := FloatResult (m.sub? a b) r
def Fmul (m : Num) (a b r : F) : Prop := FloatResult (m.mul? a b) r

/-- `SatHigh(p, v)`. -/
def BeyondHigh (m : Num) (p : PidState) (v : F) : Prop :=
  (p.lim = .collapsed ∧ m.gt v fZero = true) ∨ (p.lim = .bounded ∧ m.gt v p.max = true)

/-- `SatLow(p, v)`. -/
def BeyondLow (m : Num) (p : PidState) (v : F) : Prop :=
  (p.lim = .collapsed ∧ m.lt v fZero = true) ∨ (p.lim = .bounded ∧ m.lt v p.min = true)

/-- `w` is `Clamp(p, v)`. -/
def Clamped (m : Num) (p : PidState) (v w : F) : Prop :=
  (p.lim = .unlimited → w = v) ∧
  (p.lim = .collapsed → w = fZero) ∧
  (p.lim = .bounded →
    (m.gt v p.max = true → w = p.max) ∧
    (m.gt v p.max = false → m.lt v p.min = true → w = p.min) ∧
    (m.gt v p.max = false → m.lt v p.min = false → w = v))

/-- Step 2 lets the error `e` into the accumulator. -/
def Admits (m : Num) (p : PidState) (e : F) : Prop :=
  (BeyondHigh m p p.out1 ∧ m.lt e fZero = true) ∨
  (¬ BeyondHigh m p p.out1 ∧ BeyondLow m p p.out1 ∧ m.gt e fZero = true) ∨
  (¬ BeyondHigh m p p.out1 ∧ ¬ BeyondLow m p p.out1)

/-- The positional law: `law` is `(kp*e + ki*sum) + kd*(ePrev - e)`. -/
def RegularLaw (m : Num) (p : PidState) (e ePrev sum law : F) : Prop :=
  ∃ m1 m2 a d m3, Fmul m p.kp e m1 ∧ Fmul m p.ki sum m2 ∧ Fadd m m1 m2 a ∧ Fsub m ePrev e d ∧ Fmul m p.kd d m3 ∧
    Fadd m a m3 law

/-- The incremental law: `law` is `((out1 + kp*(e - e1)) + ki*e) + kd*((e - 2*e1) + e2)`. -/
def IncrementLaw (m : Num) (p : PidState) (e e1 e2 law : F) : Prop :=
  ∃ d m1 a1 m2 a2 m3 d2 a3 m4, Fsub m e e1 d ∧ Fmul m p.kp d m1 ∧ Fadd m p.out1 m1 a1 ∧ Fmul m p.ki e m2 ∧
    Fadd m a1 m2 a2 ∧ Fmul m (m.ofInt 2) e1 m3 ∧ Fsub m e m3 d2 ∧ Fadd m d2 e2 a3 ∧ Fmul m p.kd a3 m4 ∧ Fadd m a2 m4 law

/-- `q` is a state that the six steps of R128 can leave when they start in `p`. -/
def Stepped (m : Num) (p q : PidState) : Prop :=
  ∃ e sum law ff out,
    Fsub m p.setpoint p.feedback e ∧
    (p.mode = .regular →
      (Admits m p e → Fadd m p.integralSum e sum) ∧ (¬ Admits m p e → sum = p.integralSum) ∧
      RegularLaw m p e p.err0 sum law) ∧
    (p.mode = .increment → sum = p.integralSum ∧ IncrementLaw m p e p.err0 p.err1 law) ∧
    Fadd m law p.feedforward ff ∧ Clamped m p ff out ∧
    q = { p with err2 := p.err1, err1 := p.err0, err0 := e, integralSum := sum, out1 := law, out0 := out }

/-- `c'` is a state that `Calculate` of R142 can leave when it starts in `c`: the loops of the family are stepped in order, each
output becoming the next loop's setpoint, and the others are left alone. -/
def Chained (m : Num) (c c' : Cascade) : Prop :=
  c'.opmode = c.opmode ∧
  (c.opmode = .positionMode ∨ c.opmode = .positionFFMode →
    Stepped m c.pos c'.pos ∧ Stepped m { c.vel with setpoint := c'.pos.out0 } c'.vel ∧
    Stepped m { c.cur with setpoint := c'.vel.out0 } c'.cur) ∧
  (c.opmode = .velocityMode ∨ c.opmode = .velocityFFMode →
    c'.pos = c.pos ∧ Stepped m c.vel c'.vel ∧ Stepped m { c.cur with setpoint := c'.vel.out0 } c'.cur) ∧
  (c.opmode = .currentMode ∨ c.opmode = .currentFFMode → c'.pos = c.pos ∧ c'.vel = c.vel ∧ Stepped m c.cur c'.cur)

/-- The PidState with its nine buffers at +0.0 (R120). -/
def Zeroed (p : PidState) : PidState :=
  { p with
    setpoint := 0, feedback := 0, feedforward := 0, out0 := 0, out1 := 0
    err0 := 0, err1 := 0, err2 := 0, integralSum := 0 }

/-! ### Legality of a command word, in the words of R87 -/

/-- `op` is in the table of R86. -/
def opListed (op : Nat) : Bool :=
  (0x01 ≤ op && op ≤ 0x09) || (0x10 ≤ op && op ≤ 0x17) || (0x20 ≤ op && op ≤ 0x23) || op == 0x30 || op == 0x31 ||
  (0x40 ≤ op && op ≤ 0x48) || op == 0x50

/-- One of the conditions of R87 holds of a command word when there are `nDev` devices. -/
def illegalWord (nDev : Nat) (cmd : BitVec 128) : Bool :=
  let op := cmd.toNat % 2 ^ 8
  let dev := cmd.toNat / 2 ^ 8 % 2 ^ 8
  let loop := cmd.toNat / 2 ^ 16 % 2 ^ 2
  let reserved := cmd.toNat / 2 ^ 18 % 2 ^ 6
  let imm8 := cmd.toNat / 2 ^ 24 % 2 ^ 8
  let isPid := 0x01 ≤ op && op ≤ 0x09
  let isCas := 0x10 ≤ op && op ≤ 0x17
  !opListed op || reserved != 0 || (isPid && loop == 3) || ((isPid || isCas || op == 0x50) && nDev ≤ dev) ||
  (op == 0x01 && 1 < imm8) || (op == 0x10 && 5 < imm8) || (op == 0x31 && 31 < imm8) || (op == 0x41 && 19 < imm8) ||
  (op == 0x47 && 5 < imm8) || (op == 0x48 && (imm8 == 0 || 8 < imm8))

/-! ### Protocol calls -/

/-- `InUnit(v)` (R203). -/
def WithinUnit (m : Num) (v : F) : Prop := m.ge v (m.ofInt (-1)) = true ∧ m.le v (m.ofInt 1) = true

/-- `InPos(v)` (R203). -/
def WithinPos (m : Num) (v : F) : Prop := m.ge v (m.ofInt (-127)) = true ∧ m.lt v (m.ofInt 128) = true

/-- The instruction passes every check of R200 (or of R215) and starts the call on device `k`. -/
def Starts (s : State) (i : Instr) (call : Call) (k : Nat) : Prop :=
  match i with
  | .actHandshake dev => s.find dev.toNat = some k ∧ call = .handshake
  | .actGet dev kind => s.find dev.toNat = some k ∧ ∃ fk, (kind.toNat, fk) ∈ getRows ∧ call = .get fk
  | .actSetCurrent dev v => s.find dev.toNat = some k ∧ WithinUnit s.cfg.num v ∧ call = .setCurrent v
  | .actSetSpeed dev v => s.find dev.toNat = some k ∧ WithinUnit s.cfg.num v ∧ call = .setSpeed v
  | .actSetPosition dev v => s.find dev.toNat = some k ∧ WithinPos s.cfg.num v ∧ call = .setPosition v
  | .actSetMode dev m => s.find dev.toNat = some k ∧ call = .setMode m
  | .actSetPower dev p => s.find dev.toNat = some k ∧ call = .setPower p
  | .actSetLimit dev kind v => s.find dev.toNat = some k ∧ ∃ fk, (kind.toNat, fk) ∈ limitRows ∧ call = .setLimit fk v
  | .actSend dev dlc a b =>
    s.find dev.toNat = some k ∧ 1 ≤ dlc.toNat ∧ dlc.toNat ≤ 8 ∧ call = .send dlc.toNat (.ofWords a b)
  | .driveCycle dev => k = dev.toNat ∧ dev.toNat < s.cfg.nDev ∧ call = .driveCycle
  | _ => False

/-- The record with the last-commanded value that a call's first frame carries (R205). -/
def Commanded (call : Call) (r : ActuatorRecord) : ActuatorRecord :=
  match call with
  | .setCurrent v => { r with cmdCurrent := v }
  | .setSpeed v => { r with cmdSpeed := v }
  | .setPosition v => { r with cmdPosition := v }
  | _ => r

/-- The frame that arrives is decoded to `ack` Success (R179, R181, R183, R184). -/
def Acknowledges (c : Cfg) (kind : FrameKind) (a : Arrival) : Prop :=
  c.kindOf a.d.d0 = some kind ∧ (kind ∈ statusKinds → a.d.d1 = c.statusOk) ∧ (kind ∈ q24Kinds → a.dlc = 5)

/-- The record with the field that decoding the frame writes besides `ack` (R43, R179, R181, R183, R184). -/
def Telemetry (m : Num) (kind : FrameKind) (a : Arrival) (r : ActuatorRecord) : ActuatorRecord :=
  let v := q24Decode m (a.d.d1 ++ a.d.d2 ++ a.d.d3 ++ a.d.d4)
  let t := t8Decode m (a.d.d1 ++ a.d.d2)
  match kind with
  | .getCurrent => { r with current := v }
  | .getSpeed => { r with speed := v }
  | .getPosition => { r with position := v }
  | .getCurOutUpper => { r with curOutUpper := v }
  | .getCurOutLower => { r with curOutLower := v }
  | .getSpdOutUpper => { r with spdOutUpper := v }
  | .getSpdOutLower => { r with spdOutLower := v }
  | .getPosOutUpper => { r with posOutUpper := v }
  | .getPosOutLower => { r with posOutLower := v }
  | .getProfileSpeed => { r with profileSpeed := v }
  | .getProfileAccel => { r with profileAccel := v }
  | .getProfileDecel => { r with profileDecel := v }
  | .getTravelUpper => { r with travelUpper := v }
  | .getTravelLower => { r with travelLower := v }
  | .getMotorTemp => { r with motorTemp := t }
  | .getInverterTemp => { r with inverterTemp := t }
  | .getMode => { r with runMode := a.d.d1 }
  | .getPower => { r with power := a.d.d1 }
  | .getExceptions => { r with exception := a.d.d1 }
  | .getShutdownState => { r with shutdown := a.d.d1 }
  | _ => r

/-- What one more failure makes of the counter and the liveness of a record (R177). -/
def CountsAFailure (c : Cfg) (old new : ActuatorRecord) : Prop :=
  new.failCnt.toNat = min 255 (old.failCnt.toNat + 1) ∧
  (c.offlineThreshold ≤ new.failCnt.toNat → new.live = .offline) ∧
  (new.failCnt.toNat < c.offlineThreshold → new.live = old.live)

/-- The executor is at a point of an exchange with device `k`. -/
def At (s : State) (call : Call) (x : Nat) (p : Point) (k n : Nat) : Prop := s.seq = .busy call x p k n

/-- The inputs of one command that is answered by nobody: the executor's steps up to the last poll and `S5a`. -/
def unanswered (s : State) (cmd : BitVec 128) : List Input := .command cmd :: List.replicate (s.cfg.timeoutIters + 3) .tick

/-- A frame-kind instruction wrote record `k` as `f` says, and nothing else. -/
def Decodes (i : Instr) (s : State) (k : Nat) (r : ActuatorRecord) : Prop :=
  ∃ t, exec i s = .next t ∧ OnlyRecord s t k r ∧ SameOutside s t ∧ t.seq = s.seq ∧ t.rsp = s.rsp ∧ t.history = s.history

/-- The value of a registry field by its number in R47. -/
def fieldOf (id : Nat) (r : ActuatorRecord) (n : Nat) : Word :=
  match n with
  | 0 => BitVec.ofNat 32 id
  | 1 => if r.live = .online then 1 else 0
  | 2 => r.failCnt.setWidth 32
  | 3 => if r.ack = .success then 1 else if r.ack = .fail then 2 else 0
  | 4 => if r.fresh = true then 1 else 0
  | 5 => if r.phase = .idle then 0 else if r.phase = .awaitingAck then 1 else if r.phase = .acked then 2
         else if r.phase = .failed then 3 else 4
  | 6 => r.power.setWidth 32
  | 7 => r.runMode.setWidth 32
  | 8 => r.current
  | 9 => r.speed
  | 10 => r.position
  | 11 => r.motorTemp
  | 12 => r.inverterTemp
  | 13 => r.curOutUpper
  | 14 => r.curOutLower
  | 15 => r.spdOutUpper
  | 16 => r.spdOutLower
  | 17 => r.posOutUpper
  | 18 => r.posOutLower
  | 19 => r.travelUpper
  | 20 => r.travelLower
  | 21 => r.profileSpeed
  | 22 => r.profileAccel
  | 23 => r.profileDecel
  | 24 => r.cmdCurrent
  | 25 => r.cmdSpeed
  | 26 => r.cmdPosition
  | 27 => r.shutdown.setWidth 32
  | 28 => r.exception.setWidth 32
  | 29 => r.rx.dlc.setWidth 32
  | 30 => r.rx.d.d0 ++ r.rx.d.d1 ++ r.rx.d.d2 ++ r.rx.d.d3
  | _ => r.rx.d.d4 ++ r.rx.d.d5 ++ r.rx.d.d6 ++ r.rx.d.d7

/-- Toward zero. -/
def truncate (q : ℚ) : Int := if 0 ≤ q then ⌊q⌋ else ⌈q⌉

end Sys2Proof.Spec

open Sys2Proof Sys2Proof.Machine Sys2Proof.Spec

/-! ### Reset -/

/-- R53: after reset every PidState register is zero, `mode` is Increment and `lim` Unlimited, under every configuration. -/
def Obligations.ResetZeroesThePidFile : Prop :=
  ∀ (g : Cfg) (c : Nat) (l : Loop), c < g.nDev →
    let p := (State.resetWith g).loop c l
    p.mode = .increment ∧ p.kp = 0 ∧ p.ki = 0 ∧ p.kd = 0 ∧ p.setpoint = 0 ∧ p.feedback = 0 ∧ p.feedforward = 0 ∧
    p.out0 = 0 ∧ p.out1 = 0 ∧ p.err0 = 0 ∧ p.err1 = 0 ∧ p.err2 = 0 ∧ p.integralSum = 0 ∧ p.max = 0 ∧ p.min = 0 ∧
    p.lim = .unlimited

/-- R54: the operating modes, the records, the slots and the sequencer after reset, under every configuration. -/
def Obligations.ResetRestoresTheRegistry : Prop :=
  ∀ (g : Cfg), (State.resetWith g).seq = .ready ∧
    ∀ k, k < g.nDev → ((State.resetWith g).cascade k).opmode = .currentMode ∧
      (State.resetWith g).devId k = g.devId.getD k 0 ∧
      let r := (State.resetWith g).dev k
      r.live = .offline ∧ r.failCnt = 0 ∧ r.ack = .clear ∧ r.fresh = false ∧ r.phase = .idle ∧ r.power = g.powerOff ∧
      r.runMode = 0 ∧ r.shutdown = 0 ∧ r.exception = 0 ∧ (∀ n, 8 ≤ n → n ≤ 31 → fieldOf 0 r n = 0)

/-- R260, R261: a reset event, also while a command runs, puts every register at its reset value in one step, with no result,
and changes no parameter. That the event enters the history, and that the inputs still to come and the bus answers stay, is the
model's form (assumption log 12 and 17). -/
def Obligations.ResetStepRestoresEveryRegister : Prop :=
  ∀ (s : State) (rest : List Input), s.inputs = .reset :: rest →
    ∃ t, step s = .next t ∧ SamePorts s t rest ∧ t.cascades = (State.resetWith s.cfg).cascades ∧
      t.devs = (State.resetWith s.cfg).devs ∧ t.seq = .ready ∧ t.rsp = none ∧ t.history = .reset :: s.history

/-! ### Encoding -/

/-- Decoding the encoding of a well-formed instruction gives it back, for every instruction, every operand its encoding admits and
every opcode map. -/
def Obligations.DecodeOfEncodeIsTheInstruction : Prop :=
  ∀ (g : Cfg) (i : Instr), g.wf = true → i.wf = true → decode g (encode g i) = .ok i

/-- A command word decodes exactly when no condition of R87 holds of it, but for the condition on `dev`, which the meanings check
against `N_DEV` (with 256 devices it holds of no word); a frame decodes exactly when its first byte is in the range of `OPC` and
its length is at most 8; and what the decoder answers is well formed. -/
def Obligations.DecodedInstructionsAreWellFormed : Prop :=
  (∀ (cmd : BitVec 128), (∃ i, decodeHost cmd = .ok i) ↔ illegalWord 256 cmd = false) ∧
  (∀ (g : Cfg) (dlc : BitVec 4) (d : Bytes8), (∃ i, decodeFrame g dlc d = .ok i) ↔
    (∃ kind, g.kindOf d.d0 = some kind) ∧ dlc.toNat ≤ 8) ∧
  (∀ (g : Cfg) (e : Encoded) (i : Instr), decode g e = .ok i → i.wf = true)

/-- A few words written out from R85, R86 and R91 decode to the instructions they stand for. -/
def Obligations.ListedWordsDecode : Prop :=
  decodeHost 0x000000003F0000003F80000001010001#128 = .ok (.pidConfigure 0 1 1 0x3F800000 0x3F000000 0) ∧
  decodeHost 0x00000000000000004120000000000014#128 = .ok (.casSetPosition 0 0x41200000) ∧
  decodeHost 0x00000000000000000000000002000141#128 = .ok (.actGet 1 2) ∧
  decodeHost 0x00000000040506077F01020308000148#128 = .ok (.actSend 1 8 0x7F010203 0x04050607) ∧
  decodeFrame .default 5 ⟨0x03, 0x0A, 0x80, 0, 0, 0, 0, 0⟩ = .ok (.getPosition ⟨5, 0x0A, 0x80, 0, 0, 0, 0, 0⟩) ∧
  decodeHost 0x0000000000000000000000000004000A#128 = .error .unknownOp ∧
  decodeHost 0x00000000000000000000000000040007#128 = .error .reservedBits

/-- R87: with the core ready, a command word ends in `IllegalCommand` exactly when one of the rule's conditions holds of it, and
then no register changes and the bus is not asked. -/
def Obligations.CommandIsIllegalExactlyWhenR87Says : Prop :=
  ∀ (s : State) (cmd : BitVec 128) (rest : List Input), s.seq = .ready → s.inputs = .command cmd :: rest →
    (illegalWord s.cfg.nDev cmd = true →
      ∃ t, step s = .next t ∧ t.seq = .ready ∧ Shows t .illegalCommand 0 ∧ SameRegisters s t ∧
        t.busFree = s.busFree ∧ t.busTx = s.busTx ∧ t.cfg = s.cfg) ∧
    (illegalWord s.cfg.nDev cmd = false →
      ∃ t, step s = .next t ∧ ∀ v, t.rsp ≠ some ⟨.illegalCommand, v⟩)

/-! ### Steps -/

/-- With the core ready and a command at the host port that decodes to an instruction, the step runs the meaning of that instruction,
on the state in which the command is taken from the port and recorded. -/
def Obligations.StepRunsTheDecodedCommand : Prop :=
  ∀ (s : State) (cmd : BitVec 128) (rest : List Input) (i : Instr),
    s.seq = .ready → s.inputs = .command cmd :: rest → decodeHost cmd = .ok i →
      step s = exec i ((s.begin rest).record (.command cmd))

/-- At `S4` the step runs the meaning of the frame in the slot of the device waited on, and then moves the executor to `S5`. -/
def Obligations.StepRunsTheDecodedFrame : Prop :=
  ∀ (s : State) (rest : List Input) (call : Call) (x k n : Nat) (i : Instr),
    At s call x .s4 k n → ExecutorMoves s rest →
    decodeFrame s.cfg (s.dev k).rx.dlc (s.dev k).rx.d = .ok i →
      ∃ t, exec i (s.begin rest) = .next t ∧ step s = .next (t.goTo call x .s5 k n)

/-- R244: a command presented while a command runs is taken from the port and has no effect. -/
def Obligations.CommandWhileBusyHasNoEffect : Prop :=
  ∀ (s : State) (cmd : BitVec 128) (rest : List Input), s.seq ≠ .ready → s.inputs = .command cmd :: rest →
    ∃ t, step s = .next t ∧ SameRegisters s t ∧ t.seq = s.seq ∧ t.history = s.history ∧ t.inputs = rest ∧ t.rsp = none ∧
      t.cfg = s.cfg ∧ t.busFree = s.busFree ∧ t.busTx = s.busTx

/-- No step ends in a fault, and a step is refused only for an arrival event that is no frame: more than eight data bytes, or an
identifier wider than `ID_W` (R241, R237, U13). -/
def Obligations.OnlyAnArrivalThatIsNoFrameStopsAStep : Prop :=
  ∀ (s : State),
    (∀ r, step s ≠ .fault r) ∧
    (∀ r, step s = .refused r ↔ r = .arrivalNotAFrame ∧ ∃ a rest, s.inputs = .arrival a :: rest ∧ (8 < a.dlc.toNat ∨ 2 ^ s.cfg.idW ≤ a.id))

/-- No step changes a parameter (R9). -/
def Obligations.NoStepChangesTheConfiguration : Prop :=
  ∀ (s t : State), step s = .next t → t.cfg = s.cfg

/-! ### PID -/

/-- R122, R123, R124: each pure setter writes its one register and nothing else. -/
def Obligations.PidSettersWriteOneRegister : Prop :=
  ∀ (s : State) (dev : Byte) (b : BitVec 2) (l : Loop) (v : F),
    s.cascades.length = s.cfg.nDev → dev.toNat < s.cfg.nDev → (b, l) ∈ loopRows →
    WritesLoop (exec (.pidSetSetpoint dev b v) s) s dev.toNat l { s.loop dev.toNat l with setpoint := v } ∧
    WritesLoop (exec (.pidSetFeedback dev b v) s) s dev.toNat l { s.loop dev.toNat l with feedback := v } ∧
    WritesLoop (exec (.pidSetFeedforward dev b v) s) s dev.toNat l { s.loop dev.toNat l with feedforward := v }

/-- R121, R125, R127: `pid.configure`, `pid.set_gains` and `pid.clear` write the mode and gains, the gains, and the nine buffers. -/
def Obligations.PidConfigureGainsAndClear : Prop :=
  ∀ (s : State) (dev : Byte) (b : BitVec 2) (l : Loop) (kp ki kd : F),
    s.cascades.length = s.cfg.nDev → dev.toNat < s.cfg.nDev → (b, l) ∈ loopRows →
    WritesLoop (exec (.pidConfigure dev b 0 kp ki kd) s) s dev.toNat l
      (Zeroed { s.loop dev.toNat l with mode := .increment, kp := kp, ki := ki, kd := kd }) ∧
    WritesLoop (exec (.pidConfigure dev b 1 kp ki kd) s) s dev.toNat l
      (Zeroed { s.loop dev.toNat l with mode := .regular, kp := kp, ki := ki, kd := kd }) ∧
    WritesLoop (exec (.pidSetGains dev b kp ki kd) s) s dev.toNat l
      { s.loop dev.toNat l with kp := kp, ki := ki, kd := kd } ∧
    WritesLoop (exec (.pidClear dev b) s) s dev.toNat l (Zeroed (s.loop dev.toNat l))

/-- R126: `pid.set_limits` stores the limits and tags them by the rule's pseudocode, the Unlimited test first. For two equal
infinities the pseudocode gives Bounded and the rule's corner case says Unlimited: the pseudocode is followed (assumption log 23). -/
def Obligations.PidSetLimitsTagsTheLimits : Prop :=
  ∀ (s : State) (dev : Byte) (b : BitVec 2) (l : Loop) (max min : F),
    s.cascades.length = s.cfg.nDev → dev.toNat < s.cfg.nDev → (b, l) ∈ loopRows →
    ∃ tag, WritesLoop (exec (.pidSetLimits dev b max min) s) s dev.toNat l
        { s.loop dev.toNat l with max := max, min := min, lim := tag } ∧
      ∀ d, Fsub s.cfg.num max min d →
        (s.cfg.num.lt (s.cfg.num.abs d) s.cfg.epsLimit = true → tag = .unlimited) ∧
        (s.cfg.num.lt (s.cfg.num.abs d) s.cfg.epsLimit = false → s.cfg.num.lt max min = true → tag = .collapsed) ∧
        (s.cfg.num.lt (s.cfg.num.abs d) s.cfg.epsLimit = false → s.cfg.num.lt max min = false → tag = .bounded)

/-- R128, R129: `pid.step` leaves the loop as the six steps of the rule say, for every NaN an operation may return, and changes
nothing else. -/
def Obligations.PidStepFollowsTheSixSteps : Prop :=
  ∀ (s : State) (dev : Byte) (b : BitVec 2) (l : Loop),
    s.cascades.length = s.cfg.nDev → dev.toNat < s.cfg.nDev → (b, l) ∈ loopRows →
    ∃ q, Stepped s.cfg.num (s.loop dev.toNat l) q ∧ WritesLoop (exec (.pidStep dev b) s) s dev.toNat l q

/-- R130: `pid.output` answers `out[0]` and changes no register. -/
def Obligations.PidOutputReadsOut0 : Prop :=
  ∀ (s : State) (dev : Byte) (b : BitVec 2) (l : Loop), dev.toNat < s.cfg.nDev → (b, l) ∈ loopRows →
    EndsUnchanged (exec (.pidOutput dev b) s) s .success (s.loop dev.toNat l).out0

/-- The forms of the PID, cascade and cycle commands that R87 calls illegal end so and change nothing: a cascade index not below
`N_DEV`, the reserved loop select, a mode that does not exist. -/
def Obligations.CascadeIndexedCommandsRefuseBadOperands : Prop :=
  ∀ (s : State) (dev mode : Byte) (b : BitVec 2) (x y z : F),
    (s.cfg.nDev ≤ dev.toNat ∨ b = 3 →
      ∀ i ∈ [Instr.pidConfigure dev b mode x y z, .pidSetSetpoint dev b x, .pidSetFeedback dev b x,
             .pidSetFeedforward dev b x, .pidSetGains dev b x y z, .pidSetLimits dev b x y, .pidStep dev b,
             .pidOutput dev b, .pidClear dev b],
        EndsUnchanged (exec i s) s .illegalCommand 0) ∧
    (s.cfg.nDev ≤ dev.toNat →
      ∀ i ∈ [Instr.casSetMode dev mode, .casCalculate dev, .casSetCurrent dev x, .casSetVelocity dev x,
             .casSetPosition dev x, .casSetCurrentFf dev x y, .casSetVelocityFf dev x y, .casSetPositionFf dev x y,
             .driveCycle dev],
        EndsUnchanged (exec i s) s .illegalCommand 0) ∧
    (1 < mode.toNat → EndsUnchanged (exec (.pidConfigure dev b mode x y z) s) s .illegalCommand 0) ∧
    (5 < mode.toNat → EndsUnchanged (exec (.casSetMode dev mode) s) s .illegalCommand 0)

/-- R132: a step of the Regular law that starts beyond the upper limit does not change the accumulator unless the new error is
negative, and one that starts beyond the lower limit does not unless the new error is positive. -/
def Obligations.AntiWindupHoldsTheAccumulator : Prop :=
  ∀ (m : Sys2Proof.Num) (nan : Nat → F) (p : PidState), p.mode = .regular →
    (BeyondHigh m p p.out1 → m.lt (pidStep m nan p).err0 fZero = false →
      (pidStep m nan p).integralSum = p.integralSum) ∧
    (¬ BeyondHigh m p p.out1 → BeyondLow m p p.out1 → m.gt (pidStep m nan p).err0 fZero = false →
      (pidStep m nan p).integralSum = p.integralSum)

/-- R131: after `pid.clear`, one `pid.step` gives +0.0 when the gains are finite and zero lies within the limits, in binary32. -/
def Obligations.ClearedLoopStepsToZero : Prop :=
  ∀ (nan : Nat → F) (p : PidState), F32.isFinite p.kp = true → F32.isFinite p.ki = true → F32.isFinite p.kd = true →
    (p.lim = .bounded → F32.lt p.max fZero = false ∧ F32.lt fZero p.min = false) →
    (pidStep .binary32 nan (zeroBuffers p)).out0 = 0

/-! ### Cascade -/

/-- R141: `cas.set_mode` writes the mode and zeroes the buffers of all three loops, also when the mode stays. -/
def Obligations.CasSetModeZeroesTheCascade : Prop :=
  ∀ (s : State) (dev imm8 : Byte) (m : OpMode),
    s.cascades.length = s.cfg.nDev → dev.toNat < s.cfg.nDev → (imm8.toNat, m) ∈ modeRows →
    ∃ t, exec (.casSetMode dev imm8) s = .next t ∧
      OnlyCascade s t dev.toNat ⟨m, Zeroed (s.loop dev.toNat .pos), Zeroed (s.loop dev.toNat .vel),
        Zeroed (s.loop dev.toNat .cur)⟩ ∧
      Ends s t .success 0 ∧ SameOutside s t

/-- R142: `cas.calculate` steps the loops of the mode's family in order, each output becoming the next setpoint, leaves the others
alone, and answers the current loop's output. -/
def Obligations.CasCalculateChainsTheLoops : Prop :=
  ∀ (s : State) (dev : Byte), s.cascades.length = s.cfg.nDev → dev.toNat < s.cfg.nDev →
    ∃ t c', exec (.casCalculate dev) s = .next t ∧ Chained s.cfg.num (s.cascade dev.toNat) c' ∧ OnlyCascade s t dev.toNat c' ∧
      Ends s t .success c'.cur.out0 ∧ SameOutside s t

/-- R143 to R148: each setter writes the outermost loop of its one mode. -/
def Obligations.CasSettersWriteTheOutermostLoop : Prop :=
  ∀ (s : State) (dev : Byte) (v ff : F), s.cascades.length = s.cfg.nDev → dev.toNat < s.cfg.nDev →
    let c := dev.toNat
    let mode := (s.cascade c).opmode
    (mode = .currentMode →
      WritesLoop (exec (.casSetCurrent dev v) s) s c .cur { s.loop c .cur with setpoint := v }) ∧
    (mode = .velocityMode →
      WritesLoop (exec (.casSetVelocity dev v) s) s c .vel { s.loop c .vel with setpoint := v }) ∧
    (mode = .positionMode →
      WritesLoop (exec (.casSetPosition dev v) s) s c .pos { s.loop c .pos with setpoint := v }) ∧
    (mode = .currentFFMode →
      WritesLoop (exec (.casSetCurrentFf dev v ff) s) s c .cur { s.loop c .cur with setpoint := v, feedforward := ff }) ∧
    (mode = .velocityFFMode →
      WritesLoop (exec (.casSetVelocityFf dev v ff) s) s c .vel { s.loop c .vel with setpoint := v, feedforward := ff }) ∧
    (mode = .positionFFMode →
      WritesLoop (exec (.casSetPositionFf dev v ff) s) s c .pos { s.loop c .pos with setpoint := v, feedforward := ff })

/-- R143 to R148, D36: in every other mode the setter answers `ModeMismatch` and changes no register. -/
def Obligations.CasSettersRefuseOtherModes : Prop :=
  ∀ (s : State) (dev : Byte) (v ff : F), dev.toNat < s.cfg.nDev →
    ∀ row ∈ [(OpMode.currentMode, Instr.casSetCurrent dev v), (.velocityMode, .casSetVelocity dev v),
             (.positionMode, .casSetPosition dev v), (.currentFFMode, .casSetCurrentFf dev v ff),
             (.velocityFFMode, .casSetVelocityFf dev v ff), (.positionFFMode, .casSetPositionFf dev v ff)],
      (s.cascade dev.toNat).opmode ≠ row.1 → EndsUnchanged (exec row.2 s) s .modeMismatch 0

/-! ### Codec -/

/-- R111: `q24.encode` answers the product with 2^24, truncated toward zero and reduced modulo 2^32, under every `Num`; in
binary32 that is so for every finite operand below 2^104, and for the others the word is free (U1). -/
def Obligations.Q24EncodeTruncatesAndWraps : Prop :=
  ∀ (s : State) (v : F), ∃ w, EndsUnchanged (exec (.q24Encode v) s) s .success w ∧
    (∀ n, s.cfg.num.trunc? v 24 = some n → w = BitVec.ofInt 32 n) ∧
    (s.cfg.num = .binary32 → F32.isFinite v = true → |F32.value v| < 2 ^ 104 →
      w = BitVec.ofInt 32 (truncate (F32.value v * 2 ^ 24)))

/-- R112: in binary32 `q24.decode` answers the number `n / 2^24` exactly when `n` has at most 24 significant bits. -/
def Obligations.Q24DecodeIsExactForShortWords : Prop :=
  ∀ (s : State) (w : Word) (m : Int) (j : Nat), s.cfg.num = .binary32 → w.toInt = m * 2 ^ j → m.natAbs < 2 ^ 24 →
    ∃ v, EndsUnchanged (exec (.q24Decode w) s) s .success v ∧ F32.isFinite v = true ∧
      F32.value v = (w.toInt : ℚ) / 2 ^ 24

/-- R112: `q24.decode` answers `fdiv(i2f(n), 16777216.0)` under every `Num`; in binary32, on every word, that is a number nearest
to `n / 2^24`: no finite number lies nearer. -/
def Obligations.Q24DecodeAnswersANearestNumber : Prop :=
  ∀ (s : State) (w : Word), ∃ v, EndsUnchanged (exec (.q24Decode w) s) s .success v ∧
    FloatResult (s.cfg.num.div? (s.cfg.num.ofInt w.toInt) (s.cfg.num.ofInt 16777216)) v ∧
    (s.cfg.num = .binary32 → F32.isFinite v = true ∧
      ∀ u : F, F32.isFinite u = true →
        |F32.value v - (w.toInt : ℚ) / 2 ^ 24| ≤ |F32.value u - (w.toInt : ℚ) / 2 ^ 24|)

/-- R115: in binary32 the round trip through the Q24 word loses less than 2^-24, for every finite value of [-128, 128). -/
def Obligations.Q24RoundTripLosesLessThanAUnit : Prop :=
  ∀ (draw : Word) (v : F), F32.isFinite v = true → -128 ≤ F32.value v → F32.value v < 128 →
    F32.isFinite (q24Decode .binary32 (q24Encode .binary32 draw v)) = true ∧
    |F32.value (q24Decode .binary32 (q24Encode .binary32 draw v)) - F32.value v| < 1 / 2 ^ 24

/-- R117: in binary32 the values that the range checks of the three setters admit are encoded without wrap. -/
def Obligations.CheckedValuesEncodeWithoutWrap : Prop :=
  ∀ (draw : Word) (v : F), WithinPos .binary32 v ∨ WithinUnit .binary32 v →
    F32.isFinite v = true ∧ (q24Encode .binary32 draw v).toInt = truncate (F32.value v * 2 ^ 24)

/-- R113, U1: `t8.encode` answers the product with 256, truncated toward zero and reduced modulo 2^16, zero-extended, under every
`Num`; in binary32 that is so for every finite operand below 2^120. For a finite operand of 2^120 or more, whose binary32 product
is not finite, R113's pseudocode and U1 differ, and the raw is free (assumption log 7). -/
def Obligations.T8EncodeTruncatesAndWraps : Prop :=
  ∀ (s : State) (v : F), ∃ t : BitVec 16, EndsUnchanged (exec (.t8Encode v) s) s .success (t.setWidth 32) ∧
    (∀ n, s.cfg.num.trunc? v 8 = some n → t = BitVec.ofInt 16 n) ∧
    (s.cfg.num = .binary32 → F32.isFinite v = true → |F32.value v| < 2 ^ 120 →
      t = BitVec.ofInt 16 (truncate (F32.value v * 256)))

/-- R114: `t8.decode` answers `fdiv(i2f(t), 256.0)` under every `Num`, which in binary32 is `t / 256` exactly. -/
def Obligations.T8DecodeIsExact : Prop :=
  ∀ (s : State) (t : BitVec 16), ∃ v, EndsUnchanged (exec (.t8Decode t) s) s .success v ∧
    FloatResult (s.cfg.num.div? (s.cfg.num.ofInt t.toNat) (s.cfg.num.ofInt 256)) v ∧
    (s.cfg.num = .binary32 → F32.isFinite v = true ∧ F32.value v = (t.toNat : ℚ) / 256)

/-! ### Registry -/

/-- R160, R161: `reg.find` answers the unique index of the identifier, or `DeviceNotFound`, and changes no register. -/
def Obligations.RegFindAnswersTheIndex : Prop :=
  ∀ (s : State) (dev : Byte), s.cfg.wf = true →
    (∀ k, k < s.cfg.nDev → s.devId k = dev.toNat → EndsUnchanged (exec (.regFind dev) s) s .success (BitVec.ofNat 32 k)) ∧
    ((∀ k, k < s.cfg.nDev → s.devId k ≠ dev.toNat) → EndsUnchanged (exec (.regFind dev) s) s .deviceNotFound 0)

/-- R162, R47: `reg.read` answers the field its number names, checks the number before the device, and changes no register. -/
def Obligations.RegReadAnswersTheField : Prop :=
  ∀ (s : State) (dev field : Byte),
    (31 < field.toNat → EndsUnchanged (exec (.regRead dev field) s) s .illegalCommand 0) ∧
    (field.toNat ≤ 31 → s.find dev.toNat = none → EndsUnchanged (exec (.regRead dev field) s) s .deviceNotFound 0) ∧
    (∀ k, field.toNat ≤ 31 → s.find dev.toNat = some k →
      EndsUnchanged (exec (.regRead dev field) s) s .success (fieldOf dev.toNat (s.dev k) field.toNat))

/-! ### Protocol calls -/

/-- R172 `S1`: with the bus free, a protocol call that passes its checks completes its first step (the checks and `S1` are one step,
assumption log 8): the executor is busy with the call at `S2` of its first exchange, and no register has changed. `S1` of a later
exchange of the call likewise goes on to its `S2`. -/
def Obligations.ProtocolCallsStartTheirExchange : Prop :=
  (∀ (s : State) (i : Instr) (call : Call) (k : Nat), Starts s i call k → s.busFreeAnswer = true →
    ∃ t, exec i s = .next t ∧ At t call 0 .s2 k 0 ∧ SameRegisters s t ∧ t.history = .busFree true :: s.history ∧
      t.busFree = s.busFree.tail ∧ t.busTx = s.busTx ∧ t.rsp = s.rsp ∧ t.cfg = s.cfg ∧ t.inputs = s.inputs ∧
      t.draws = s.draws) ∧
  (∀ (s : State) (call : Call) (x k n : Nat) (rest : List Input), At s call x .s1 k n → ExecutorMoves s rest →
    (s.begin rest).busFreeAnswer = true →
    ∃ t, step s = .next t ∧ At t call x .s2 k 0 ∧ SameRegisters s t ∧ t.history = .busFree true :: s.history ∧
      t.busFree = s.busFree.tail ∧ t.busTx = s.busTx ∧ t.rsp = none ∧ t.cfg = s.cfg ∧ t.inputs = rest)

/-- R172 corner case (a): with the bus busy the call ends in `BusBusy` and every register is as it was, in its first exchange and in
a later one, where the progress made so far is kept (R241). -/
def Obligations.BusyBusEndsTheCall : Prop :=
  (∀ (s : State) (i : Instr) (call : Call) (k : Nat), Starts s i call k → s.busFreeAnswer = false →
    ∃ t, exec i s = .next t ∧ SameRegisters s t ∧ t.seq = .ready ∧ Shows t .busBusy 0 ∧
      t.history = .result ⟨.busBusy, 0⟩ :: .busFree false :: s.history ∧ t.busFree = s.busFree.tail ∧ t.busTx = s.busTx) ∧
  (∀ (s : State) (call : Call) (x k n : Nat) (rest : List Input), At s call x .s1 k n → ExecutorMoves s rest →
    (s.begin rest).busFreeAnswer = false →
    ∃ t, step s = .next t ∧ SameRegisters s t ∧ t.seq = .ready ∧ Shows t .busBusy 0 ∧
      t.history = .result ⟨.busBusy, 0⟩ :: .busFree false :: s.history ∧ t.busFree = s.busFree.tail ∧ t.busTx = s.busTx ∧
      t.cfg = s.cfg ∧ t.inputs = rest)

/-- R233, R200: the checks come in order (illegal operand, unknown device, range) and before any bus activity. -/
def Obligations.ChecksComeInOrderBeforeTheBus : Prop :=
  ∀ (s : State) (dev imm8 : Byte) (v : F) (a b : Word),
    (19 < imm8.toNat → EndsUnchanged (exec (.actGet dev imm8) s) s .illegalCommand 0) ∧
    (5 < imm8.toNat → EndsUnchanged (exec (.actSetLimit dev imm8 v) s) s .illegalCommand 0) ∧
    (imm8.toNat = 0 ∨ 8 < imm8.toNat → EndsUnchanged (exec (.actSend dev imm8 a b) s) s .illegalCommand 0) ∧
    (s.find dev.toNat = none →
      (∀ i ∈ [Instr.actHandshake dev, .actSetCurrent dev v, .actSetSpeed dev v, .actSetPosition dev v,
              .actSetMode dev imm8, .actSetPower dev imm8], EndsUnchanged (exec i s) s .deviceNotFound 0) ∧
      (imm8.toNat ≤ 19 → EndsUnchanged (exec (.actGet dev imm8) s) s .deviceNotFound 0) ∧
      (imm8.toNat ≤ 5 → EndsUnchanged (exec (.actSetLimit dev imm8 v) s) s .deviceNotFound 0) ∧
      (1 ≤ imm8.toNat ∧ imm8.toNat ≤ 8 → EndsUnchanged (exec (.actSend dev imm8 a b) s) s .deviceNotFound 0)) ∧
    (∀ k, s.find dev.toNat = some k →
      (¬ WithinUnit s.cfg.num v →
        EndsUnchanged (exec (.actSetCurrent dev v) s) s .outOfRange 0 ∧
        EndsUnchanged (exec (.actSetSpeed dev v) s) s .outOfRange 0) ∧
      (¬ WithinPos s.cfg.num v →
        EndsUnchanged (exec (.actSetPosition dev v) s) s .outOfRange 0))

/-- R172 `S2`: the executor's step clears `ack` and `fresh` of the device and nothing else. -/
def Obligations.ClearStepClearsAckAndFresh : Prop :=
  ∀ (s : State) (call : Call) (x k n : Nat) (rest : List Input), At s call x .s2 k n → ExecutorMoves s rest →
    k < s.devs.length →
    ∃ t, step s = .next t ∧ OnlyRecord s t k { s.dev k with ack := .clear, fresh := false } ∧ At t call x .s3 k 0 ∧
      t.history = s.history ∧ t.rsp = none ∧ SamePorts s t rest

/-- R172 `S3`, R205: the frame of the exchange is handed to the bus, for the device addressed, and the bus answers (the next answer
of its list, or a draw where the list is empty). On `Ok` the phase is AwaitingAck, the commanded value, if the frame carries one, is
kept, and the wait begins with no poll made; on `Err` the phase is Idle and the call ends in `TransmitFailure`. -/
def Obligations.TransmitStepHandsOverOneFrame : Prop :=
  ∀ (s : State) (call : Call) (x k n : Nat) (rest : List Input),
    At s call x .s3 k n → ExecutorMoves s rest → k < s.devs.length →
    let frame : Frame := ⟨s.devId k, frameBytes (s.begin rest) call x k⟩
    let sent : ActuatorRecord := { s.dev k with phase := .awaitingAck }
    ∃ t, step s = .next t ∧ t.cascades = s.cascades ∧ (∀ j, j ≠ k → t.dev j = s.dev j) ∧ t.busTx = s.busTx.tail ∧
      t.busFree = s.busFree ∧ t.cfg = s.cfg ∧ t.inputs = rest ∧
      ((s.begin rest).busTxAnswer = true →
        t.history = .busTx frame true :: s.history ∧ At t call x .poll k 0 ∧ t.rsp = none ∧
        (∀ v, call = .setCurrent v → t.dev k = { sent with cmdCurrent := v }) ∧
        (∀ v, call = .setSpeed v → t.dev k = { sent with cmdSpeed := v }) ∧
        (∀ v, call = .setPosition v → t.dev k = { sent with cmdPosition := v }) ∧
        (call = .driveCycle → x = 3 → t.dev k = { sent with cmdCurrent := (s.loop k .cur).out0 }) ∧
        ((∀ v, call ≠ .setCurrent v ∧ call ≠ .setSpeed v ∧ call ≠ .setPosition v) → ¬ (call = .driveCycle ∧ x = 3) →
          t.dev k = sent)) ∧
      ((s.begin rest).busTxAnswer = false →
        t.history = .result ⟨.transmitFailure, 0⟩ :: .busTx frame false :: s.history ∧ t.seq = .ready ∧
        Shows t .transmitFailure 0 ∧ t.dev k = { s.dev k with phase := .idle })

/-- R171, R92, R212: the frames that the calls build, byte for byte. -/
def Obligations.CallsBuildTheFramesOfR92 : Prop :=
  ∀ (s : State) (k : Nat) (v : F) (b : Byte) (kind : FrameKind) (a c : Word) (dlc : Nat),
    let q := q24Encode s.cfg.num (Config.q24Draw s.draws) v
    let word : List Byte := [q.extractLsb' 24 8, q.extractLsb' 16 8, q.extractLsb' 8 8, q.extractLsb' 0 8]
    frameBytes s .handshake 0 k = [s.cfg.opcode .handshake] ∧
    frameBytes s (.get kind) 0 k = [s.cfg.opcode kind] ∧
    frameBytes s (.setCurrent v) 0 k = s.cfg.opcode .setCurrent :: word ∧
    frameBytes s (.setSpeed v) 0 k = s.cfg.opcode .setSpeed :: word ∧
    frameBytes s (.setPosition v) 0 k = s.cfg.opcode .setPosition :: word ∧
    frameBytes s (.setLimit kind v) 0 k = s.cfg.opcode kind :: word ∧
    frameBytes s (.setMode b) 0 k = [s.cfg.opcode .setMode, b] ∧
    frameBytes s (.setMode b) 1 k = [s.cfg.opcode .getMode] ∧
    frameBytes s (.setPower b) 0 k = [s.cfg.opcode .setPower, b] ∧
    frameBytes s (.setPower b) 1 k = [s.cfg.opcode .getPower] ∧
    frameBytes s .driveCycle 0 k = [s.cfg.opcode .getCurrent] ∧
    frameBytes s .driveCycle 1 k = [s.cfg.opcode .getSpeed] ∧
    frameBytes s .driveCycle 2 k = [s.cfg.opcode .getPosition] ∧
    ((s.loop k .cur).out0 = v → frameBytes s .driveCycle 3 k = s.cfg.opcode .setCurrent :: word) ∧
    frameBytes s (.send dlc (.ofWords a c)) 0 k =
      [a.extractLsb' 24 8, a.extractLsb' 16 8, a.extractLsb' 8 8, a.extractLsb' 0 8,
       c.extractLsb' 24 8, c.extractLsb' 16 8, c.extractLsb' 8 8, c.extractLsb' 0 8].take dlc

/-- R173: a poll reads the flag before the count. -/
def Obligations.PollTestsTheFlagBeforeTheCount : Prop :=
  ∀ (s : State) (call : Call) (x k n : Nat) (rest : List Input), At s call x .poll k n → ExecutorMoves s rest →
    ∃ t, step s = .next t ∧ SameRegisters s t ∧ t.history = s.history ∧ t.rsp = none ∧ SamePorts s t rest ∧
      ((s.dev k).fresh = true → At t call x .s4 k (n + 1)) ∧
      ((s.dev k).fresh = false → n + 1 < s.cfg.timeoutIters → At t call x .poll k (n + 1)) ∧
      ((s.dev k).fresh = false → s.cfg.timeoutIters ≤ n + 1 → At t call x .s5a k (n + 1))

/-- R172 `S5`, R176, R177: the exchange is settled by `ack`: the phase, the failure counter and the liveness of the device, and the
result; a call of one exchange has then ended in Success. -/
def Obligations.SettleStepKeepsTheBooks : Prop :=
  ∀ (s : State) (call : Call) (x k n : Nat) (rest : List Input), At s call x .s5 k n → ExecutorMoves s rest →
    k < s.devs.length →
    ∃ t, step s = .next t ∧ (∀ j, j ≠ k → t.dev j = s.dev j) ∧ SamePorts s t rest ∧
      ((s.dev k).ack = .success → t.dev k = { s.dev k with phase := .acked, failCnt := 0, live := .online } ∧
        (call.exchanges = 1 → t.cascades = s.cascades ∧ Ends s t .success 0)) ∧
      ((s.dev k).ack ≠ .success → t.cascades = s.cascades ∧ CountsAFailure s.cfg (s.dev k) (t.dev k) ∧
        t.dev k = { s.dev k with
          phase := (t.dev k).phase, failCnt := (t.dev k).failCnt, live := (t.dev k).live }) ∧
      ((s.dev k).ack = .fail → (t.dev k).phase = .failed ∧ Ends s t .ackFailure 0) ∧
      ((s.dev k).ack = .clear → (t.dev k).phase = .timedOut ∧ Ends s t .ackTimeout 0)

/-- R172 `S5a`, R177: after an exhausted wait the phase is TimedOut, a failure is counted, nothing else of the record changes, and
the call ends in `AckTimeout`. -/
def Obligations.ExhaustedStepKeepsTheBooks : Prop :=
  ∀ (s : State) (call : Call) (x k n : Nat) (rest : List Input), At s call x .s5a k n → ExecutorMoves s rest →
    k < s.devs.length →
    ∃ t, step s = .next t ∧ t.cascades = s.cascades ∧ (∀ j, j ≠ k → t.dev j = s.dev j) ∧ SamePorts s t rest ∧
      Ends s t .ackTimeout 0 ∧ CountsAFailure s.cfg (s.dev k) (t.dev k) ∧
      t.dev k = { s.dev k with phase := .timedOut, failCnt := (t.dev k).failCnt, live := (t.dev k).live }

/-- R209, R210: after a successful read-back the cached byte is compared, and the comparison does not touch the books (it is made
in the step `S5`, assumption log 8). -/
def Obligations.ReadBackIsCompared : Prop :=
  ∀ (s : State) (k n : Nat) (b : Byte) (call : Call) (cached : Byte) (rest : List Input),
    (call = .setMode b ∧ cached = (s.dev k).runMode ∨ call = .setPower b ∧ cached = (s.dev k).power) →
    ExecutorMoves s rest → k < s.devs.length → (s.dev k).ack = .success →
    (At s call 0 .s5 k n → ∃ t, step s = .next t ∧ At t call 1 .s1 k 0 ∧ t.rsp = none ∧ t.cascades = s.cascades ∧
      t.history = s.history) ∧
    (At s call 1 .s5 k n → ∃ t, step s = .next t ∧ t.cascades = s.cascades ∧
      t.dev k = { s.dev k with phase := .acked, failCnt := 0, live := .online } ∧
      (cached = b → Ends s t .success 0) ∧ (cached ≠ b → Ends s t .ackFailure 0))

/-- R215: what `drive_cycle` does after each successful exchange (in the step `S5`, assumption log 8): the first two go on to the
next refresh; after the third the telemetry becomes the loops' feedback, the cascade is calculated as R142 says, and the cycle goes on
to its fourth exchange or ends in `OutOfRange`; the fourth ends it with the cascade's output as its value. -/
def Obligations.DriveCycleStepsTheCascade : Prop :=
  ∀ (s : State) (k n : Nat) (rest : List Input), s.Inv → ExecutorMoves s rest → (s.dev k).ack = .success →
    (∀ x, x < 2 → At s .driveCycle x .s5 k n →
      ∃ t, step s = .next t ∧ At t .driveCycle (x + 1) .s1 k 0 ∧ t.cascades = s.cascades ∧ t.rsp = none ∧
        t.history = s.history) ∧
    (At s .driveCycle 2 .s5 k n →
      ∃ t, step s = .next t ∧ (∀ c, c ≠ k → t.cascade c = s.cascade c) ∧
        Chained s.cfg.num { s.cascade k with
            cur := { (s.cascade k).cur with feedback := (s.dev k).current }
            vel := { (s.cascade k).vel with feedback := (s.dev k).speed }
            pos := { (s.cascade k).pos with feedback := (s.dev k).position } } (t.cascade k) ∧
        (WithinUnit s.cfg.num (t.loop k .cur).out0 → At t .driveCycle 3 .s1 k 0 ∧ t.rsp = none ∧ t.history = s.history) ∧
        (¬ WithinUnit s.cfg.num (t.loop k .cur).out0 → Ends s t .outOfRange 0)) ∧
    (At s .driveCycle 3 .s5 k n →
      ∃ t, step s = .next t ∧ t.cascades = s.cascades ∧ Ends s t .success (s.loop k .cur).out0)

/-! ### Arrivals and decoding -/

/-- R237: an arrival writes the slot and `fresh` of the device it comes from, and nothing else; a frame of an unknown device is
dropped; an event whose `dlc` is above 8, or whose identifier is wider than `ID_W` (U13), is no frame and is refused (assumption log 9). -/
def Obligations.ArrivalWritesOnlySlotAndFresh : Prop :=
  ∀ (s : State) (a : Arrival) (rest : List Input), s.devs.length = s.cfg.nDev → s.inputs = .arrival a :: rest →
    (8 < a.dlc.toNat ∨ 2 ^ s.cfg.idW ≤ a.id → step s = .refused .arrivalNotAFrame) ∧
    (a.dlc.toNat ≤ 8 → a.id < 2 ^ s.cfg.idW →
      ∃ t, step s = .next t ∧ t.seq = s.seq ∧ t.history = .arrival a :: s.history ∧ t.rsp = none ∧ SamePorts s t rest ∧
        (s.find a.id = none → SameRegisters s t) ∧
        (∀ k, s.find a.id = some k → OnlyRecord s t k { s.dev k with rx := ⟨a.dlc, a.d⟩, fresh := true }))

/-- R179: an answer of each STATUS kind sets `ack` from its status byte, whatever its length, and writes nothing else. -/
def Obligations.StatusAnswersSetAck : Prop :=
  ∀ (s : State) (call : Call) (x k n : Nat) (ans : Answer), At s call x .s4 k n → k < s.devs.length →
    ∀ i ∈ [Instr.handshake ans, .setCurrent ans, .setSpeed ans, .setPosition ans, .setMode ans, .setPower ans,
           .setCurOutUpper ans, .setCurOutLower ans, .setSpdOutUpper ans, .setSpdOutLower ans, .setPosOutUpper ans,
           .setPosOutLower ans],
      (ans.d1 = s.cfg.statusOk → Decodes i s k { s.dev k with ack := .success }) ∧
      (ans.d1 ≠ s.cfg.statusOk → Decodes i s k { s.dev k with ack := .fail })

/-- R181, R182: a Q24 answer of length 5 writes the field of its kind and sets `ack` to Success; of any other length it writes
nothing. -/
def Obligations.Q24AnswersWriteTheirField : Prop :=
  ∀ (s : State) (call : Call) (x k n : Nat) (ans : Answer), At s call x .s4 k n → k < s.devs.length →
    let v := q24Decode s.cfg.num (ans.d1 ++ ans.d2 ++ ans.d3 ++ ans.d4)
    let r : ActuatorRecord := { s.dev k with ack := .success }
    ∀ row ∈ [(Instr.getCurrent ans, { r with current := v }), (.getSpeed ans, { r with speed := v }),
             (.getPosition ans, { r with position := v }),
             (.getCurOutUpper ans, { r with curOutUpper := v }), (.getCurOutLower ans, { r with curOutLower := v }),
             (.getSpdOutUpper ans, { r with spdOutUpper := v }), (.getSpdOutLower ans, { r with spdOutLower := v }),
             (.getPosOutUpper ans, { r with posOutUpper := v }), (.getPosOutLower ans, { r with posOutLower := v }),
             (.getProfileSpeed ans, { r with profileSpeed := v }), (.getProfileAccel ans, { r with profileAccel := v }),
             (.getProfileDecel ans, { r with profileDecel := v }),
             (.getTravelUpper ans, { r with travelUpper := v }), (.getTravelLower ans, { r with travelLower := v })],
      (ans.dlc = 5 → Decodes row.1 s k row.2) ∧ (ans.dlc ≠ 5 → Decodes row.1 s k (s.dev k))

/-- R183, R184: temperature and byte answers write their field and set `ack` to Success, whatever their length. -/
def Obligations.T8AndByteAnswersWriteTheirField : Prop :=
  ∀ (s : State) (call : Call) (x k n : Nat) (ans : Answer), At s call x .s4 k n → k < s.devs.length →
    let v := t8Decode s.cfg.num (ans.d1 ++ ans.d2)
    let r : ActuatorRecord := { s.dev k with ack := .success }
    ∀ row ∈ [(Instr.getMotorTemp ans, { r with motorTemp := v }), (.getInverterTemp ans, { r with inverterTemp := v }),
             (.getMode ans, { r with runMode := ans.d1 }), (.getPower ans, { r with power := ans.d1 }),
             (.getExceptions ans, { r with exception := ans.d1 }),
             (.getShutdownState ans, { r with shutdown := ans.d1 })],
      Decodes row.1 s k row.2

/-- R185: a frame with an unknown opcode writes nothing. -/
def Obligations.UnknownOpcodeWritesNothing : Prop :=
  ∀ (s : State) (call : Call) (x k n : Nat) (rest : List Input), At s call x .s4 k n → ExecutorMoves s rest →
    s.cfg.kindOf (s.dev k).rx.d.d0 = none →
    ∃ t, step s = .next t ∧ SameRegisters s t ∧ At t call x .s5 k n ∧ t.history = s.history ∧ t.rsp = none ∧
      SamePorts s t rest

/-! ### Runs. The exact counts of steps rest on how the model cuts an exchange into steps (assumption log 8). -/

/-- A call of one exchange, with the bus free and the frame taken, whose device answers after `m` polls with any frame that decodes
to Success (a status frame, a value of the right length, a temperature, a byte), ends in Success after `m + 7` steps, with the
answer's field written, whatever was asked for, and the device Online with a failure count of 0 (R172, R186; log 8 for the count). -/
def Obligations.AnsweredCallEndsInSuccess : Prop :=
  ∀ (s : State) (cmd : BitVec 128) (i : Instr) (call : Call) (k m : Nat) (a : Arrival) (kind : FrameKind)
    (fs ts : List Bool) (rest : List Input),
    s.Inv → s.seq = .ready → decodeHost cmd = .ok i → Starts s i call k → call.exchanges = 1 →
    s.busFree = true :: fs → s.busTx = true :: ts → m < s.cfg.timeoutIters →
    s.inputs = .command cmd :: (List.replicate (2 + m) .tick ++ .arrival a :: .tick :: .tick :: .tick :: rest) →
    a.id = s.devId k → a.dlc.toNat ≤ 8 → Acknowledges s.cfg kind a →
    Reaches (m + 7) s (fun t => t.seq = .ready ∧ Shows t .success 0 ∧ t.inputs = rest ∧ t.cascades = s.cascades ∧
      t.dev k = { Telemetry s.cfg.num kind a (Commanded call (s.dev k)) with
        live := .online, failCnt := 0, ack := .success, phase := .acked, fresh := true, rx := ⟨a.dlc, a.d⟩ } ∧
      (∀ j, j ≠ k → t.dev j = s.dev j) ∧
      t.history = .result ⟨.success, 0⟩ :: .arrival a ::
        .busTx ⟨s.devId k, frameBytes { s with draws := s.draws + 3 } call 0 k⟩ true :: .busFree true :: .command cmd :: s.history)

/-- A call with the bus free and the frame taken, whose device does not answer, polls exactly `TIMEOUT_ITERS` times and ends in
`AckTimeout` after `TIMEOUT_ITERS + 4` steps with one more failure counted (R172, R173; log 8 for the count). -/
def Obligations.UnansweredCallEndsInTimeout : Prop :=
  ∀ (s : State) (cmd : BitVec 128) (i : Instr) (call : Call) (k : Nat) (fs ts : List Bool) (rest : List Input),
    s.Inv → s.seq = .ready → decodeHost cmd = .ok i → Starts s i call k →
    s.busFree = true :: fs → s.busTx = true :: ts → s.inputs = unanswered s cmd ++ rest →
    Reaches (s.cfg.timeoutIters + 4) s (fun t => t.seq = .ready ∧ Shows t .ackTimeout 0 ∧ t.inputs = rest ∧
      t.busFree = fs ∧ t.busTx = ts ∧ t.cascades = s.cascades ∧ CountsAFailure s.cfg (s.dev k) (t.dev k) ∧
      t.dev k = { Commanded call (s.dev k) with
        ack := .clear, fresh := false, phase := .timedOut, failCnt := (t.dev k).failCnt, live := (t.dev k).live } ∧
      (∀ j, j ≠ k → t.dev j = s.dev j) ∧
      t.history = .result ⟨.ackTimeout, 0⟩ ::
        .busTx ⟨s.devId k, frameBytes { s with draws := s.draws + 3 } call 0 k⟩ true :: .busFree true :: .command cmd :: s.history)

/-- R187: with a threshold of three, three unanswered handshakes in a row take an Online device with no failure to the counts 1, 2
and 3, Online, Online and Offline, each after `TIMEOUT_ITERS + 4` steps (log 8 for the counts). -/
def Obligations.ThreeTimeoutsTakeADeviceOffline : Prop :=
  ∀ (s : State) (cmd : BitVec 128) (dev : Byte) (k : Nat) (fs ts : List Bool) (rest : List Input),
    s.Inv → s.seq = .ready → s.cfg.offlineThreshold = 3 → decodeHost cmd = .ok (.actHandshake dev) → s.find dev.toNat = some k →
    s.busFree = true :: true :: true :: fs → s.busTx = true :: true :: true :: ts →
    s.inputs = unanswered s cmd ++ (unanswered s cmd ++ (unanswered s cmd ++ rest)) →
    (s.dev k).live = .online → (s.dev k).failCnt = 0 →
    Reaches (s.cfg.timeoutIters + 4) s (fun t => (t.dev k).failCnt = 1 ∧ (t.dev k).live = .online) ∧
    Reaches (2 * (s.cfg.timeoutIters + 4)) s (fun t => (t.dev k).failCnt = 2 ∧ (t.dev k).live = .online) ∧
    Reaches (3 * (s.cfg.timeoutIters + 4)) s
      (fun t => (t.dev k).failCnt = 3 ∧ (t.dev k).live = .offline ∧ t.seq = .ready ∧ t.inputs = rest)

/-- R281: from every good state, whatever happens at the ports and whatever the bus answers, the command in progress ends within four
exchanges of at most `TIMEOUT_ITERS + 5` steps of the executor (log 8 for the count), the steps that others take in between not
counted. -/
def Obligations.EveryCommandEnds : Prop :=
  ∀ (s : State), s.Inv → (∀ a, .arrival a ∈ s.inputs → a.dlc.toNat ≤ 8 ∧ a.id < 2 ^ s.cfg.idW) →
    ∃ m, m ≤ (s.inputs.filter (fun i => decide (i ≠ .tick))).length + 4 * (s.cfg.timeoutIters + 5) ∧
      Reaches m s (fun t => t.seq = .ready)

/-! ### Whole-machine rules -/

/-- The invariant holds at reset, under every well-formed configuration. -/
def Obligations.ResetMeetsTheInvariant : Prop :=
  State.reset.Inv ∧ ∀ (g : Cfg), g.wf = true → (State.resetWith g).Inv

/-- Every step keeps the invariant, whatever the host, the bus and the devices do. -/
def Obligations.EveryStepKeepsTheInvariant : Prop :=
  ∀ (s t : State), s.Inv → step s = .next t → t.Inv

/-- R46, R174: after every step from a good state at most one device awaits an acknowledgement, and none while the executor is
ready. -/
def Obligations.AtMostOneRequestIsOutstanding : Prop :=
  ∀ (s t : State), s.Inv → step s = .next t → ∀ j k, j < t.cfg.nDev → k < t.cfg.nDev →
    ((t.dev j).phase = .awaitingAck → (t.dev k).phase = .awaitingAck → j = k) ∧
    (t.seq = .ready → (t.dev k).phase ≠ .awaitingAck)

/-- R177, R176: a device that is Offline becomes Online only in the step `S5` of an exchange with it that ended in Success. -/
def Obligations.OnlyASuccessfulExchangeBringsADeviceOnline : Prop :=
  ∀ (s t : State) (k : Nat), s.Inv → k < s.cfg.nDev → step s = .next t →
    (s.dev k).live = .offline → (t.dev k).live = .online →
    (s.dev k).ack = .success ∧ ∃ call x n, At s call x .s5 k n

/-- R39: `fresh` of a device is set only by an arrival from it, and cleared only by `S2` of an exchange with it or by reset, after
which it is 0. -/
def Obligations.FreshIsSetByArrivalsAndClearedByS2 : Prop :=
  ∀ (s t : State) (k : Nat), s.Inv → k < s.cfg.nDev → step s = .next t →
    ((s.dev k).fresh = false → (t.dev k).fresh = true → ∃ a rest, s.inputs = .arrival a :: rest ∧ a.id = s.devId k) ∧
    ((s.dev k).fresh = true → (t.dev k).fresh = false →
      (∃ rest, s.inputs = .reset :: rest) ∨ ∃ call x n, At s call x .s2 k n) ∧
    (∀ rest, s.inputs = .reset :: rest → (t.dev k).fresh = false)

/-- R30, R34, R215: which steps write a cascade (a writing `pid.*` or `cas.*` command, which writes no record; the step of
`drive_cycle` that settles its third exchange, with which the cascade's work is merged, assumption log 8; reset) and which write a
record (an arrival, which writes no cascade; the executor inside an exchange; reset). -/
def Obligations.OnlyTheseStepsWriteCascadesAndRecords : Prop :=
  ∀ (s t : State), step s = .next t →
    (t.cascades ≠ s.cascades →
      (∃ cmd rest, s.seq = .ready ∧ s.inputs = .command cmd :: rest ∧
        (let op := cmd.toNat % 2 ^ 8
         (0x01 ≤ op ∧ op ≤ 0x09 ∧ op ≠ 0x08) ∨ (0x10 ≤ op ∧ op ≤ 0x17)) ∧ t.devs = s.devs) ∨
      (∃ k n rest, At s .driveCycle 2 .s5 k n ∧ ExecutorMoves s rest ∧ (s.dev k).ack = .success) ∨
      (∃ rest, s.inputs = .reset :: rest)) ∧
    (t.devs ≠ s.devs →
      (∃ a rest, s.inputs = .arrival a :: rest ∧ t.cascades = s.cascades) ∨
      (∃ call x p k n rest, At s call x p k n ∧ ExecutorMoves s rest ∧ p ∈ [Point.s2, .s3, .s4, .s5, .s5a]) ∨
      (∃ rest, s.inputs = .reset :: rest))

/-- R94, R88, R70: a step only adds to the event history, and every frame it hands to the bus is addressed to a device of the
registry and has one to eight bytes. -/
def Obligations.TransmittedFramesAreWellFormed : Prop :=
  ∀ (s t : State), s.Inv → step s = .next t →
    ∃ events, t.history = events ++ s.history ∧
      ∀ fr ok, .busTx fr ok ∈ events → fr.id ∈ s.cfg.devId ∧ 1 ≤ fr.data.length ∧ fr.data.length ≤ 8
end

