-- ==== Sys2Proof/Laws/Decode.lean ====
section
/-! SUPPORT. Laws of the encodings: the fields of a packed command, the bytes of a word, and the opcode map. -/

namespace Sys2Proof

/-- The fields of a packed command are the fields it was packed from, with the reserved bits 0. -/
theorem hostFields_packHost (op dev : Byte) (loop : BitVec 2) (imm8 : Byte) (a b c : Word) :
    hostFields (packHost op dev loop imm8 a b c) = ⟨op, dev, loop, 0, imm8, a, b, c⟩ := by
  unfold hostFields packHost
  simp only [HostFields.mk.injEq]
  refine ⟨?_, ?_, ?_, ?_, ?_, ?_, ?_, ?_⟩ <;>
    · apply BitVec.eq_of_getLsbD_eq
      intro i hi
      simp only [BitVec.getLsbD_extractLsb', BitVec.getLsbD_append]
      interval_cases i <;> simp

/-- A word is the concatenation of its four bytes, most significant first. -/
theorem wordOfBytes_byteOfWord (w : Word) :
    wordOfBytes (byteOfWord w 0) (byteOfWord w 1) (byteOfWord w 2) (byteOfWord w 3) = w := by
  unfold wordOfBytes byteOfWord
  apply BitVec.eq_of_getLsbD_eq
  intro i hi
  simp only [BitVec.getLsbD_append, BitVec.getLsbD_extractLsb']
  interval_cases i <;> simp

/-- The opcode map read backwards: with distinct opcodes, the kind of a listed kind's opcode is that kind. -/
theorem find_snd_of_lookup {rows : List (FrameKind × Byte)} (hk : (rows.map Prod.fst).Nodup)
    (hb : (rows.map Prod.snd).Nodup) {kind : FrameKind} (hm : kind ∈ rows.map Prod.fst) :
    (rows.find? (fun row => row.2 == (rows.lookup kind).getD 0)).map Prod.fst = some kind := by
  induction rows with
  | nil => simp at hm
  | cons row rest ih =>
    obtain ⟨k, b⟩ := row
    simp only [List.map_cons, List.nodup_cons, List.mem_cons] at hk hb hm
    by_cases h : kind = k
    · subst h
      simp
    · have hm' : kind ∈ rest.map Prod.fst := hm.resolve_left h
      have hrec := ih hk.2 hb.2 hm'
      have hne : b ≠ (rest.lookup kind).getD 0 := by
        rintro rfl
        apply hb.1
        obtain ⟨row, hr, -⟩ := Option.map_eq_some_iff.mp hrec
        have hp := List.find?_some hr
        have hmem := List.mem_of_find?_eq_some hr
        simp only [beq_iff_eq] at hp
        exact List.mem_map.mpr ⟨row, hmem, hp⟩
      have hl : (((k, b) :: rest).lookup kind) = rest.lookup kind := by
        simp [List.lookup_cons, beq_eq_false_iff_ne.mpr h]
      rw [hl, List.find?_cons_of_neg (by simpa using hne)]
      exact hrec

/-- Every kind is listed. -/
theorem FrameKind.mem_all (kind : FrameKind) : kind ∈ FrameKind.all := by cases kind <;> decide

theorem FrameKind.all_nodup : FrameKind.all.Nodup := by decide

/-- In a well-formed configuration the kind of a kind's opcode is that kind (R91). -/
theorem Cfg.kindOf_opcode {c : Cfg} (h : c.wf = true) (kind : FrameKind) : c.kindOf (c.opcode kind) = some kind := by
  simp only [Cfg.wf, Bool.and_eq_true, decide_eq_true_eq] at h
  obtain ⟨⟨⟨-, hk⟩, hb⟩, -⟩ := h
  exact find_snd_of_lookup (by rw [hk]; exact FrameKind.all_nodup) hb (by rw [hk]; exact kind.mem_all)

/-- A packed answer frame decodes to its kind's instruction (R92). -/
theorem decode_packFrame {c : Cfg} (h : c.wf = true) (kind : FrameKind) {ans : Answer} (hw : ans.wf = true) :
    decode c (packFrame c kind ans) = .ok (.ofAnswer ans kind) := by
  have ha : (ans.bytes (c.opcode kind)).answer ans.dlc = ans := rfl
  have hd : (ans.bytes (c.opcode kind)).d0 = c.opcode kind := rfl
  simp only [packFrame, decode, decodeFrame, hd, c.kindOf_opcode h, ha, hw, if_true]

end Sys2Proof
end

