-- ==== Sys2Proof/Laws/State.lean ====
section
/-! SUPPORT. One lemma per field per update of the state and of its records, each true by unfolding, so that no later proof unfolds a
record update. -/

namespace Sys2Proof.Machine

variable (s : State)

@[simp] theorem modDev_cfg (k : Nat) (f : ActuatorRecord → ActuatorRecord) : (s.modDev k f).cfg = s.cfg := rfl
@[simp] theorem modDev_cascades (k : Nat) (f : ActuatorRecord → ActuatorRecord) : (s.modDev k f).cascades = s.cascades := rfl
@[simp] theorem modDev_devs (k : Nat) (f : ActuatorRecord → ActuatorRecord) : (s.modDev k f).devs = s.devs.modify k f := rfl
@[simp] theorem modDev_seq (k : Nat) (f : ActuatorRecord → ActuatorRecord) : (s.modDev k f).seq = s.seq := rfl
@[simp] theorem modDev_rsp (k : Nat) (f : ActuatorRecord → ActuatorRecord) : (s.modDev k f).rsp = s.rsp := rfl
@[simp] theorem modDev_inputs (k : Nat) (f : ActuatorRecord → ActuatorRecord) : (s.modDev k f).inputs = s.inputs := rfl
@[simp] theorem modDev_busFree (k : Nat) (f : ActuatorRecord → ActuatorRecord) : (s.modDev k f).busFree = s.busFree := rfl
@[simp] theorem modDev_busTx (k : Nat) (f : ActuatorRecord → ActuatorRecord) : (s.modDev k f).busTx = s.busTx := rfl
@[simp] theorem modDev_history (k : Nat) (f : ActuatorRecord → ActuatorRecord) : (s.modDev k f).history = s.history := rfl
@[simp] theorem modDev_draws (k : Nat) (f : ActuatorRecord → ActuatorRecord) : (s.modDev k f).draws = s.draws := rfl

@[simp] theorem modCascade_cfg (k : Nat) (f : Cascade → Cascade) : (s.modCascade k f).cfg = s.cfg := rfl
@[simp] theorem modCascade_cascades (k : Nat) (f : Cascade → Cascade) : (s.modCascade k f).cascades = s.cascades.modify k f := rfl
@[simp] theorem modCascade_devs (k : Nat) (f : Cascade → Cascade) : (s.modCascade k f).devs = s.devs := rfl
@[simp] theorem modCascade_seq (k : Nat) (f : Cascade → Cascade) : (s.modCascade k f).seq = s.seq := rfl
@[simp] theorem modCascade_rsp (k : Nat) (f : Cascade → Cascade) : (s.modCascade k f).rsp = s.rsp := rfl
@[simp] theorem modCascade_inputs (k : Nat) (f : Cascade → Cascade) : (s.modCascade k f).inputs = s.inputs := rfl
@[simp] theorem modCascade_busFree (k : Nat) (f : Cascade → Cascade) : (s.modCascade k f).busFree = s.busFree := rfl
@[simp] theorem modCascade_busTx (k : Nat) (f : Cascade → Cascade) : (s.modCascade k f).busTx = s.busTx := rfl
@[simp] theorem modCascade_history (k : Nat) (f : Cascade → Cascade) : (s.modCascade k f).history = s.history := rfl
@[simp] theorem modCascade_draws (k : Nat) (f : Cascade → Cascade) : (s.modCascade k f).draws = s.draws := rfl

@[simp] theorem modLoop_cfg (k : Nat) (l : Loop) (f : PidState → PidState) : (s.modLoop k l f).cfg = s.cfg := rfl
@[simp] theorem modLoop_cascades (k : Nat) (l : Loop) (f : PidState → PidState) : (s.modLoop k l f).cascades = s.cascades.modify k (fun x => x.modLoop l f) := rfl
@[simp] theorem modLoop_devs (k : Nat) (l : Loop) (f : PidState → PidState) : (s.modLoop k l f).devs = s.devs := rfl
@[simp] theorem modLoop_seq (k : Nat) (l : Loop) (f : PidState → PidState) : (s.modLoop k l f).seq = s.seq := rfl
@[simp] theorem modLoop_rsp (k : Nat) (l : Loop) (f : PidState → PidState) : (s.modLoop k l f).rsp = s.rsp := rfl
@[simp] theorem modLoop_inputs (k : Nat) (l : Loop) (f : PidState → PidState) : (s.modLoop k l f).inputs = s.inputs := rfl
@[simp] theorem modLoop_busFree (k : Nat) (l : Loop) (f : PidState → PidState) : (s.modLoop k l f).busFree = s.busFree := rfl
@[simp] theorem modLoop_busTx (k : Nat) (l : Loop) (f : PidState → PidState) : (s.modLoop k l f).busTx = s.busTx := rfl
@[simp] theorem modLoop_history (k : Nat) (l : Loop) (f : PidState → PidState) : (s.modLoop k l f).history = s.history := rfl
@[simp] theorem modLoop_draws (k : Nat) (l : Loop) (f : PidState → PidState) : (s.modLoop k l f).draws = s.draws := rfl

@[simp] theorem record_cfg (e : Event) : (s.record e).cfg = s.cfg := rfl
@[simp] theorem record_cascades (e : Event) : (s.record e).cascades = s.cascades := rfl
@[simp] theorem record_devs (e : Event) : (s.record e).devs = s.devs := rfl
@[simp] theorem record_seq (e : Event) : (s.record e).seq = s.seq := rfl
@[simp] theorem record_rsp (e : Event) : (s.record e).rsp = s.rsp := rfl
@[simp] theorem record_inputs (e : Event) : (s.record e).inputs = s.inputs := rfl
@[simp] theorem record_busFree (e : Event) : (s.record e).busFree = s.busFree := rfl
@[simp] theorem record_busTx (e : Event) : (s.record e).busTx = s.busTx := rfl
@[simp] theorem record_history (e : Event) : (s.record e).history = e :: s.history := rfl
@[simp] theorem record_draws (e : Event) : (s.record e).draws = s.draws := rfl

@[simp] theorem respond_cfg (r : Result) (v : Word) : (s.respond r v).cfg = s.cfg := rfl
@[simp] theorem respond_cascades (r : Result) (v : Word) : (s.respond r v).cascades = s.cascades := rfl
@[simp] theorem respond_devs (r : Result) (v : Word) : (s.respond r v).devs = s.devs := rfl
@[simp] theorem respond_seq (r : Result) (v : Word) : (s.respond r v).seq = .ready := rfl
@[simp] theorem respond_rsp (r : Result) (v : Word) : (s.respond r v).rsp = some ⟨r, if r = .success then v else 0⟩ := rfl
@[simp] theorem respond_hostResponse (r : Result) (v : Word) :
    (s.respond r v).hostResponse = some (r.code, if r = .success then v else 0) := rfl
@[simp] theorem respond_inputs (r : Result) (v : Word) : (s.respond r v).inputs = s.inputs := rfl
@[simp] theorem respond_busFree (r : Result) (v : Word) : (s.respond r v).busFree = s.busFree := rfl
@[simp] theorem respond_busTx (r : Result) (v : Word) : (s.respond r v).busTx = s.busTx := rfl
@[simp] theorem respond_history (r : Result) (v : Word) : (s.respond r v).history = .result ⟨r, if r = .success then v else 0⟩ :: s.history := rfl
@[simp] theorem respond_draws (r : Result) (v : Word) : (s.respond r v).draws = s.draws := rfl

@[simp] theorem askBusFree_cfg : s.askBusFree.cfg = s.cfg := rfl
@[simp] theorem askBusFree_cascades : s.askBusFree.cascades = s.cascades := rfl
@[simp] theorem askBusFree_devs : s.askBusFree.devs = s.devs := rfl
@[simp] theorem askBusFree_seq : s.askBusFree.seq = s.seq := rfl
@[simp] theorem askBusFree_rsp : s.askBusFree.rsp = s.rsp := rfl
@[simp] theorem askBusFree_inputs : s.askBusFree.inputs = s.inputs := rfl
@[simp] theorem askBusFree_busFree : s.askBusFree.busFree = s.busFree.tail := rfl
@[simp] theorem askBusFree_busTx : s.askBusFree.busTx = s.busTx := rfl
@[simp] theorem askBusFree_history : s.askBusFree.history = .busFree s.busFreeAnswer :: s.history := rfl
@[simp] theorem askBusFree_draws : s.askBusFree.draws = s.draws := rfl

@[simp] theorem handToBus_cfg (fr : Frame) : (s.handToBus fr).cfg = s.cfg := rfl
@[simp] theorem handToBus_cascades (fr : Frame) : (s.handToBus fr).cascades = s.cascades := rfl
@[simp] theorem handToBus_devs (fr : Frame) : (s.handToBus fr).devs = s.devs := rfl
@[simp] theorem handToBus_seq (fr : Frame) : (s.handToBus fr).seq = s.seq := rfl
@[simp] theorem handToBus_rsp (fr : Frame) : (s.handToBus fr).rsp = s.rsp := rfl
@[simp] theorem handToBus_inputs (fr : Frame) : (s.handToBus fr).inputs = s.inputs := rfl
@[simp] theorem handToBus_busFree (fr : Frame) : (s.handToBus fr).busFree = s.busFree := rfl
@[simp] theorem handToBus_busTx (fr : Frame) : (s.handToBus fr).busTx = s.busTx.tail := rfl
@[simp] theorem handToBus_history (fr : Frame) : (s.handToBus fr).history = .busTx fr s.busTxAnswer :: s.history := rfl
@[simp] theorem handToBus_draws (fr : Frame) : (s.handToBus fr).draws = s.draws := rfl

@[simp] theorem begin_cfg (rest : List Input) : (s.begin rest).cfg = s.cfg := rfl
@[simp] theorem begin_cascades (rest : List Input) : (s.begin rest).cascades = s.cascades := rfl
@[simp] theorem begin_devs (rest : List Input) : (s.begin rest).devs = s.devs := rfl
@[simp] theorem begin_seq (rest : List Input) : (s.begin rest).seq = s.seq := rfl
@[simp] theorem begin_rsp (rest : List Input) : (s.begin rest).rsp = none := rfl
@[simp] theorem begin_inputs (rest : List Input) : (s.begin rest).inputs = rest := rfl
@[simp] theorem begin_busFree (rest : List Input) : (s.begin rest).busFree = s.busFree := rfl
@[simp] theorem begin_busTx (rest : List Input) : (s.begin rest).busTx = s.busTx := rfl
@[simp] theorem begin_history (rest : List Input) : (s.begin rest).history = s.history := rfl
@[simp] theorem begin_draws (rest : List Input) : (s.begin rest).draws = s.draws + 1 := rfl

@[simp] theorem goTo_cfg (call : Call) (x : Nat) (p : Point) (k n : Nat) : (s.goTo call x p k n).cfg = s.cfg := rfl
@[simp] theorem goTo_cascades (call : Call) (x : Nat) (p : Point) (k n : Nat) : (s.goTo call x p k n).cascades = s.cascades := rfl
@[simp] theorem goTo_devs (call : Call) (x : Nat) (p : Point) (k n : Nat) : (s.goTo call x p k n).devs = s.devs := rfl
@[simp] theorem goTo_seq (call : Call) (x : Nat) (p : Point) (k n : Nat) : (s.goTo call x p k n).seq = .busy call x p k n := rfl
@[simp] theorem goTo_rsp (call : Call) (x : Nat) (p : Point) (k n : Nat) : (s.goTo call x p k n).rsp = s.rsp := rfl
@[simp] theorem goTo_inputs (call : Call) (x : Nat) (p : Point) (k n : Nat) : (s.goTo call x p k n).inputs = s.inputs := rfl
@[simp] theorem goTo_busFree (call : Call) (x : Nat) (p : Point) (k n : Nat) : (s.goTo call x p k n).busFree = s.busFree := rfl
@[simp] theorem goTo_busTx (call : Call) (x : Nat) (p : Point) (k n : Nat) : (s.goTo call x p k n).busTx = s.busTx := rfl
@[simp] theorem goTo_history (call : Call) (x : Nat) (p : Point) (k n : Nat) : (s.goTo call x p k n).history = s.history := rfl
@[simp] theorem goTo_draws (call : Call) (x : Nat) (p : Point) (k n : Nat) : (s.goTo call x p k n).draws = s.draws := rfl

@[simp] theorem applyReset_cfg : s.applyReset.cfg = s.cfg := rfl
@[simp] theorem applyReset_cascades : s.applyReset.cascades = List.replicate s.cfg.nDev .reset := rfl
@[simp] theorem applyReset_devs : s.applyReset.devs = List.replicate s.cfg.nDev (.reset s.cfg) := rfl
@[simp] theorem applyReset_seq : s.applyReset.seq = .ready := rfl
@[simp] theorem applyReset_rsp : s.applyReset.rsp = none := rfl
@[simp] theorem applyReset_inputs : s.applyReset.inputs = s.inputs := rfl
@[simp] theorem applyReset_busFree : s.applyReset.busFree = s.busFree := rfl
@[simp] theorem applyReset_busTx : s.applyReset.busTx = s.busTx := rfl
@[simp] theorem applyReset_history : s.applyReset.history = .reset :: s.history := rfl
@[simp] theorem applyReset_draws : s.applyReset.draws = s.draws := rfl

variable (r : ActuatorRecord)

@[simp] theorem clearFlags_live : (clearFlags r).live = r.live := rfl
@[simp] theorem clearFlags_failCnt : (clearFlags r).failCnt = r.failCnt := rfl
@[simp] theorem clearFlags_ack : (clearFlags r).ack = .clear := rfl
@[simp] theorem clearFlags_fresh : (clearFlags r).fresh = false := rfl
@[simp] theorem clearFlags_phase : (clearFlags r).phase = r.phase := rfl
@[simp] theorem clearFlags_power : (clearFlags r).power = r.power := rfl
@[simp] theorem clearFlags_runMode : (clearFlags r).runMode = r.runMode := rfl
@[simp] theorem clearFlags_shutdown : (clearFlags r).shutdown = r.shutdown := rfl
@[simp] theorem clearFlags_exception : (clearFlags r).exception = r.exception := rfl
@[simp] theorem clearFlags_current : (clearFlags r).current = r.current := rfl
@[simp] theorem clearFlags_speed : (clearFlags r).speed = r.speed := rfl
@[simp] theorem clearFlags_position : (clearFlags r).position = r.position := rfl
@[simp] theorem clearFlags_motorTemp : (clearFlags r).motorTemp = r.motorTemp := rfl
@[simp] theorem clearFlags_inverterTemp : (clearFlags r).inverterTemp = r.inverterTemp := rfl
@[simp] theorem clearFlags_curOutUpper : (clearFlags r).curOutUpper = r.curOutUpper := rfl
@[simp] theorem clearFlags_curOutLower : (clearFlags r).curOutLower = r.curOutLower := rfl
@[simp] theorem clearFlags_spdOutUpper : (clearFlags r).spdOutUpper = r.spdOutUpper := rfl
@[simp] theorem clearFlags_spdOutLower : (clearFlags r).spdOutLower = r.spdOutLower := rfl
@[simp] theorem clearFlags_posOutUpper : (clearFlags r).posOutUpper = r.posOutUpper := rfl
@[simp] theorem clearFlags_posOutLower : (clearFlags r).posOutLower = r.posOutLower := rfl
@[simp] theorem clearFlags_travelUpper : (clearFlags r).travelUpper = r.travelUpper := rfl
@[simp] theorem clearFlags_travelLower : (clearFlags r).travelLower = r.travelLower := rfl
@[simp] theorem clearFlags_profileSpeed : (clearFlags r).profileSpeed = r.profileSpeed := rfl
@[simp] theorem clearFlags_profileAccel : (clearFlags r).profileAccel = r.profileAccel := rfl
@[simp] theorem clearFlags_profileDecel : (clearFlags r).profileDecel = r.profileDecel := rfl
@[simp] theorem clearFlags_cmdCurrent : (clearFlags r).cmdCurrent = r.cmdCurrent := rfl
@[simp] theorem clearFlags_cmdSpeed : (clearFlags r).cmdSpeed = r.cmdSpeed := rfl
@[simp] theorem clearFlags_cmdPosition : (clearFlags r).cmdPosition = r.cmdPosition := rfl
@[simp] theorem clearFlags_rx : (clearFlags r).rx = r.rx := rfl

@[simp] theorem setPhase_live (p : Phase) : (setPhase p r).live = r.live := rfl
@[simp] theorem setPhase_failCnt (p : Phase) : (setPhase p r).failCnt = r.failCnt := rfl
@[simp] theorem setPhase_ack (p : Phase) : (setPhase p r).ack = r.ack := rfl
@[simp] theorem setPhase_fresh (p : Phase) : (setPhase p r).fresh = r.fresh := rfl
@[simp] theorem setPhase_phase (p : Phase) : (setPhase p r).phase = p := rfl
@[simp] theorem setPhase_power (p : Phase) : (setPhase p r).power = r.power := rfl
@[simp] theorem setPhase_runMode (p : Phase) : (setPhase p r).runMode = r.runMode := rfl
@[simp] theorem setPhase_shutdown (p : Phase) : (setPhase p r).shutdown = r.shutdown := rfl
@[simp] theorem setPhase_exception (p : Phase) : (setPhase p r).exception = r.exception := rfl
@[simp] theorem setPhase_current (p : Phase) : (setPhase p r).current = r.current := rfl
@[simp] theorem setPhase_speed (p : Phase) : (setPhase p r).speed = r.speed := rfl
@[simp] theorem setPhase_position (p : Phase) : (setPhase p r).position = r.position := rfl
@[simp] theorem setPhase_motorTemp (p : Phase) : (setPhase p r).motorTemp = r.motorTemp := rfl
@[simp] theorem setPhase_inverterTemp (p : Phase) : (setPhase p r).inverterTemp = r.inverterTemp := rfl
@[simp] theorem setPhase_curOutUpper (p : Phase) : (setPhase p r).curOutUpper = r.curOutUpper := rfl
@[simp] theorem setPhase_curOutLower (p : Phase) : (setPhase p r).curOutLower = r.curOutLower := rfl
@[simp] theorem setPhase_spdOutUpper (p : Phase) : (setPhase p r).spdOutUpper = r.spdOutUpper := rfl
@[simp] theorem setPhase_spdOutLower (p : Phase) : (setPhase p r).spdOutLower = r.spdOutLower := rfl
@[simp] theorem setPhase_posOutUpper (p : Phase) : (setPhase p r).posOutUpper = r.posOutUpper := rfl
@[simp] theorem setPhase_posOutLower (p : Phase) : (setPhase p r).posOutLower = r.posOutLower := rfl
@[simp] theorem setPhase_travelUpper (p : Phase) : (setPhase p r).travelUpper = r.travelUpper := rfl
@[simp] theorem setPhase_travelLower (p : Phase) : (setPhase p r).travelLower = r.travelLower := rfl
@[simp] theorem setPhase_profileSpeed (p : Phase) : (setPhase p r).profileSpeed = r.profileSpeed := rfl
@[simp] theorem setPhase_profileAccel (p : Phase) : (setPhase p r).profileAccel = r.profileAccel := rfl
@[simp] theorem setPhase_profileDecel (p : Phase) : (setPhase p r).profileDecel = r.profileDecel := rfl
@[simp] theorem setPhase_cmdCurrent (p : Phase) : (setPhase p r).cmdCurrent = r.cmdCurrent := rfl
@[simp] theorem setPhase_cmdSpeed (p : Phase) : (setPhase p r).cmdSpeed = r.cmdSpeed := rfl
@[simp] theorem setPhase_cmdPosition (p : Phase) : (setPhase p r).cmdPosition = r.cmdPosition := rfl
@[simp] theorem setPhase_rx (p : Phase) : (setPhase p r).rx = r.rx := rfl

@[simp] theorem okBook_live : (okBook r).live = .online := rfl
@[simp] theorem okBook_failCnt : (okBook r).failCnt = 0 := rfl
@[simp] theorem okBook_ack : (okBook r).ack = r.ack := rfl
@[simp] theorem okBook_fresh : (okBook r).fresh = r.fresh := rfl
@[simp] theorem okBook_phase : (okBook r).phase = r.phase := rfl
@[simp] theorem okBook_power : (okBook r).power = r.power := rfl
@[simp] theorem okBook_runMode : (okBook r).runMode = r.runMode := rfl
@[simp] theorem okBook_shutdown : (okBook r).shutdown = r.shutdown := rfl
@[simp] theorem okBook_exception : (okBook r).exception = r.exception := rfl
@[simp] theorem okBook_current : (okBook r).current = r.current := rfl
@[simp] theorem okBook_speed : (okBook r).speed = r.speed := rfl
@[simp] theorem okBook_position : (okBook r).position = r.position := rfl
@[simp] theorem okBook_motorTemp : (okBook r).motorTemp = r.motorTemp := rfl
@[simp] theorem okBook_inverterTemp : (okBook r).inverterTemp = r.inverterTemp := rfl
@[simp] theorem okBook_curOutUpper : (okBook r).curOutUpper = r.curOutUpper := rfl
@[simp] theorem okBook_curOutLower : (okBook r).curOutLower = r.curOutLower := rfl
@[simp] theorem okBook_spdOutUpper : (okBook r).spdOutUpper = r.spdOutUpper := rfl
@[simp] theorem okBook_spdOutLower : (okBook r).spdOutLower = r.spdOutLower := rfl
@[simp] theorem okBook_posOutUpper : (okBook r).posOutUpper = r.posOutUpper := rfl
@[simp] theorem okBook_posOutLower : (okBook r).posOutLower = r.posOutLower := rfl
@[simp] theorem okBook_travelUpper : (okBook r).travelUpper = r.travelUpper := rfl
@[simp] theorem okBook_travelLower : (okBook r).travelLower = r.travelLower := rfl
@[simp] theorem okBook_profileSpeed : (okBook r).profileSpeed = r.profileSpeed := rfl
@[simp] theorem okBook_profileAccel : (okBook r).profileAccel = r.profileAccel := rfl
@[simp] theorem okBook_profileDecel : (okBook r).profileDecel = r.profileDecel := rfl
@[simp] theorem okBook_cmdCurrent : (okBook r).cmdCurrent = r.cmdCurrent := rfl
@[simp] theorem okBook_cmdSpeed : (okBook r).cmdSpeed = r.cmdSpeed := rfl
@[simp] theorem okBook_cmdPosition : (okBook r).cmdPosition = r.cmdPosition := rfl
@[simp] theorem okBook_rx : (okBook r).rx = r.rx := rfl

@[simp] theorem failBook_live (n : Nat) : (failBook n r).live = if n ≤ (bumpFailCnt r.failCnt).toNat then .offline else r.live := rfl
@[simp] theorem failBook_failCnt (n : Nat) : (failBook n r).failCnt = bumpFailCnt r.failCnt := rfl
@[simp] theorem failBook_ack (n : Nat) : (failBook n r).ack = r.ack := rfl
@[simp] theorem failBook_fresh (n : Nat) : (failBook n r).fresh = r.fresh := rfl
@[simp] theorem failBook_phase (n : Nat) : (failBook n r).phase = r.phase := rfl
@[simp] theorem failBook_power (n : Nat) : (failBook n r).power = r.power := rfl
@[simp] theorem failBook_runMode (n : Nat) : (failBook n r).runMode = r.runMode := rfl
@[simp] theorem failBook_shutdown (n : Nat) : (failBook n r).shutdown = r.shutdown := rfl
@[simp] theorem failBook_exception (n : Nat) : (failBook n r).exception = r.exception := rfl
@[simp] theorem failBook_current (n : Nat) : (failBook n r).current = r.current := rfl
@[simp] theorem failBook_speed (n : Nat) : (failBook n r).speed = r.speed := rfl
@[simp] theorem failBook_position (n : Nat) : (failBook n r).position = r.position := rfl
@[simp] theorem failBook_motorTemp (n : Nat) : (failBook n r).motorTemp = r.motorTemp := rfl
@[simp] theorem failBook_inverterTemp (n : Nat) : (failBook n r).inverterTemp = r.inverterTemp := rfl
@[simp] theorem failBook_curOutUpper (n : Nat) : (failBook n r).curOutUpper = r.curOutUpper := rfl
@[simp] theorem failBook_curOutLower (n : Nat) : (failBook n r).curOutLower = r.curOutLower := rfl
@[simp] theorem failBook_spdOutUpper (n : Nat) : (failBook n r).spdOutUpper = r.spdOutUpper := rfl
@[simp] theorem failBook_spdOutLower (n : Nat) : (failBook n r).spdOutLower = r.spdOutLower := rfl
@[simp] theorem failBook_posOutUpper (n : Nat) : (failBook n r).posOutUpper = r.posOutUpper := rfl
@[simp] theorem failBook_posOutLower (n : Nat) : (failBook n r).posOutLower = r.posOutLower := rfl
@[simp] theorem failBook_travelUpper (n : Nat) : (failBook n r).travelUpper = r.travelUpper := rfl
@[simp] theorem failBook_travelLower (n : Nat) : (failBook n r).travelLower = r.travelLower := rfl
@[simp] theorem failBook_profileSpeed (n : Nat) : (failBook n r).profileSpeed = r.profileSpeed := rfl
@[simp] theorem failBook_profileAccel (n : Nat) : (failBook n r).profileAccel = r.profileAccel := rfl
@[simp] theorem failBook_profileDecel (n : Nat) : (failBook n r).profileDecel = r.profileDecel := rfl
@[simp] theorem failBook_cmdCurrent (n : Nat) : (failBook n r).cmdCurrent = r.cmdCurrent := rfl
@[simp] theorem failBook_cmdSpeed (n : Nat) : (failBook n r).cmdSpeed = r.cmdSpeed := rfl
@[simp] theorem failBook_cmdPosition (n : Nat) : (failBook n r).cmdPosition = r.cmdPosition := rfl
@[simp] theorem failBook_rx (n : Nat) : (failBook n r).rx = r.rx := rfl

@[simp] theorem timeOut_live (c : Cfg) : (timeOut c r).live = if c.offlineThreshold ≤ (bumpFailCnt r.failCnt).toNat then .offline else r.live := rfl
@[simp] theorem timeOut_failCnt (c : Cfg) : (timeOut c r).failCnt = bumpFailCnt r.failCnt := rfl
@[simp] theorem timeOut_ack (c : Cfg) : (timeOut c r).ack = r.ack := rfl
@[simp] theorem timeOut_fresh (c : Cfg) : (timeOut c r).fresh = r.fresh := rfl
@[simp] theorem timeOut_phase (c : Cfg) : (timeOut c r).phase = .timedOut := rfl
@[simp] theorem timeOut_power (c : Cfg) : (timeOut c r).power = r.power := rfl
@[simp] theorem timeOut_runMode (c : Cfg) : (timeOut c r).runMode = r.runMode := rfl
@[simp] theorem timeOut_shutdown (c : Cfg) : (timeOut c r).shutdown = r.shutdown := rfl
@[simp] theorem timeOut_exception (c : Cfg) : (timeOut c r).exception = r.exception := rfl
@[simp] theorem timeOut_current (c : Cfg) : (timeOut c r).current = r.current := rfl
@[simp] theorem timeOut_speed (c : Cfg) : (timeOut c r).speed = r.speed := rfl
@[simp] theorem timeOut_position (c : Cfg) : (timeOut c r).position = r.position := rfl
@[simp] theorem timeOut_motorTemp (c : Cfg) : (timeOut c r).motorTemp = r.motorTemp := rfl
@[simp] theorem timeOut_inverterTemp (c : Cfg) : (timeOut c r).inverterTemp = r.inverterTemp := rfl
@[simp] theorem timeOut_curOutUpper (c : Cfg) : (timeOut c r).curOutUpper = r.curOutUpper := rfl
@[simp] theorem timeOut_curOutLower (c : Cfg) : (timeOut c r).curOutLower = r.curOutLower := rfl
@[simp] theorem timeOut_spdOutUpper (c : Cfg) : (timeOut c r).spdOutUpper = r.spdOutUpper := rfl
@[simp] theorem timeOut_spdOutLower (c : Cfg) : (timeOut c r).spdOutLower = r.spdOutLower := rfl
@[simp] theorem timeOut_posOutUpper (c : Cfg) : (timeOut c r).posOutUpper = r.posOutUpper := rfl
@[simp] theorem timeOut_posOutLower (c : Cfg) : (timeOut c r).posOutLower = r.posOutLower := rfl
@[simp] theorem timeOut_travelUpper (c : Cfg) : (timeOut c r).travelUpper = r.travelUpper := rfl
@[simp] theorem timeOut_travelLower (c : Cfg) : (timeOut c r).travelLower = r.travelLower := rfl
@[simp] theorem timeOut_profileSpeed (c : Cfg) : (timeOut c r).profileSpeed = r.profileSpeed := rfl
@[simp] theorem timeOut_profileAccel (c : Cfg) : (timeOut c r).profileAccel = r.profileAccel := rfl
@[simp] theorem timeOut_profileDecel (c : Cfg) : (timeOut c r).profileDecel = r.profileDecel := rfl
@[simp] theorem timeOut_cmdCurrent (c : Cfg) : (timeOut c r).cmdCurrent = r.cmdCurrent := rfl
@[simp] theorem timeOut_cmdSpeed (c : Cfg) : (timeOut c r).cmdSpeed = r.cmdSpeed := rfl
@[simp] theorem timeOut_cmdPosition (c : Cfg) : (timeOut c r).cmdPosition = r.cmdPosition := rfl
@[simp] theorem timeOut_rx (c : Cfg) : (timeOut c r).rx = r.rx := rfl

variable (p : PidState)

@[simp] theorem zeroBuffers_mode : (zeroBuffers p).mode = p.mode := rfl
@[simp] theorem zeroBuffers_kp : (zeroBuffers p).kp = p.kp := rfl
@[simp] theorem zeroBuffers_ki : (zeroBuffers p).ki = p.ki := rfl
@[simp] theorem zeroBuffers_kd : (zeroBuffers p).kd = p.kd := rfl
@[simp] theorem zeroBuffers_setpoint : (zeroBuffers p).setpoint = fZero := rfl
@[simp] theorem zeroBuffers_feedback : (zeroBuffers p).feedback = fZero := rfl
@[simp] theorem zeroBuffers_feedforward : (zeroBuffers p).feedforward = fZero := rfl
@[simp] theorem zeroBuffers_out0 : (zeroBuffers p).out0 = fZero := rfl
@[simp] theorem zeroBuffers_out1 : (zeroBuffers p).out1 = fZero := rfl
@[simp] theorem zeroBuffers_err0 : (zeroBuffers p).err0 = fZero := rfl
@[simp] theorem zeroBuffers_err1 : (zeroBuffers p).err1 = fZero := rfl
@[simp] theorem zeroBuffers_err2 : (zeroBuffers p).err2 = fZero := rfl
@[simp] theorem zeroBuffers_integralSum : (zeroBuffers p).integralSum = fZero := rfl
@[simp] theorem zeroBuffers_max : (zeroBuffers p).max = p.max := rfl
@[simp] theorem zeroBuffers_min : (zeroBuffers p).min = p.min := rfl
@[simp] theorem zeroBuffers_lim : (zeroBuffers p).lim = p.lim := rfl

@[simp] theorem configure_mode (m : PidMode) (a b c : F) : (configure m a b c p).mode = m := rfl
@[simp] theorem configure_kp (m : PidMode) (a b c : F) : (configure m a b c p).kp = a := rfl
@[simp] theorem configure_ki (m : PidMode) (a b c : F) : (configure m a b c p).ki = b := rfl
@[simp] theorem configure_kd (m : PidMode) (a b c : F) : (configure m a b c p).kd = c := rfl
@[simp] theorem configure_setpoint (m : PidMode) (a b c : F) : (configure m a b c p).setpoint = fZero := rfl
@[simp] theorem configure_feedback (m : PidMode) (a b c : F) : (configure m a b c p).feedback = fZero := rfl
@[simp] theorem configure_feedforward (m : PidMode) (a b c : F) : (configure m a b c p).feedforward = fZero := rfl
@[simp] theorem configure_out0 (m : PidMode) (a b c : F) : (configure m a b c p).out0 = fZero := rfl
@[simp] theorem configure_out1 (m : PidMode) (a b c : F) : (configure m a b c p).out1 = fZero := rfl
@[simp] theorem configure_err0 (m : PidMode) (a b c : F) : (configure m a b c p).err0 = fZero := rfl
@[simp] theorem configure_err1 (m : PidMode) (a b c : F) : (configure m a b c p).err1 = fZero := rfl
@[simp] theorem configure_err2 (m : PidMode) (a b c : F) : (configure m a b c p).err2 = fZero := rfl
@[simp] theorem configure_integralSum (m : PidMode) (a b c : F) : (configure m a b c p).integralSum = fZero := rfl
@[simp] theorem configure_max (m : PidMode) (a b c : F) : (configure m a b c p).max = p.max := rfl
@[simp] theorem configure_min (m : PidMode) (a b c : F) : (configure m a b c p).min = p.min := rfl
@[simp] theorem configure_lim (m : PidMode) (a b c : F) : (configure m a b c p).lim = p.lim := rfl

@[simp] theorem shiftErr_mode (m : Num) (nan : Nat → F) : (shiftErr m nan p).mode = p.mode := rfl
@[simp] theorem shiftErr_kp (m : Num) (nan : Nat → F) : (shiftErr m nan p).kp = p.kp := rfl
@[simp] theorem shiftErr_ki (m : Num) (nan : Nat → F) : (shiftErr m nan p).ki = p.ki := rfl
@[simp] theorem shiftErr_kd (m : Num) (nan : Nat → F) : (shiftErr m nan p).kd = p.kd := rfl
@[simp] theorem shiftErr_setpoint (m : Num) (nan : Nat → F) : (shiftErr m nan p).setpoint = p.setpoint := rfl
@[simp] theorem shiftErr_feedback (m : Num) (nan : Nat → F) : (shiftErr m nan p).feedback = p.feedback := rfl
@[simp] theorem shiftErr_feedforward (m : Num) (nan : Nat → F) : (shiftErr m nan p).feedforward = p.feedforward := rfl
@[simp] theorem shiftErr_out0 (m : Num) (nan : Nat → F) : (shiftErr m nan p).out0 = p.out0 := rfl
@[simp] theorem shiftErr_out1 (m : Num) (nan : Nat → F) : (shiftErr m nan p).out1 = p.out1 := rfl
@[simp] theorem shiftErr_err0 (m : Num) (nan : Nat → F) : (shiftErr m nan p).err0 = m.sub (nan 0) p.setpoint p.feedback := rfl
@[simp] theorem shiftErr_err1 (m : Num) (nan : Nat → F) : (shiftErr m nan p).err1 = p.err0 := rfl
@[simp] theorem shiftErr_err2 (m : Num) (nan : Nat → F) : (shiftErr m nan p).err2 = p.err1 := rfl
@[simp] theorem shiftErr_integralSum (m : Num) (nan : Nat → F) : (shiftErr m nan p).integralSum = p.integralSum := rfl
@[simp] theorem shiftErr_max (m : Num) (nan : Nat → F) : (shiftErr m nan p).max = p.max := rfl
@[simp] theorem shiftErr_min (m : Num) (nan : Nat → F) : (shiftErr m nan p).min = p.min := rfl
@[simp] theorem shiftErr_lim (m : Num) (nan : Nat → F) : (shiftErr m nan p).lim = p.lim := rfl

end Sys2Proof.Machine
end

