-- ==== Sys2Proof/Laws/Ops.lean ====
section
/-! SUPPORT. For each shared operation, what it can do, said once. -/

namespace Sys2Proof.Machine

/-! ### Reading back a write -/

theorem dev_modDev_same (s : State) (k : Nat) (f : ActuatorRecord → ActuatorRecord) (h : k < s.devs.length) :
    (s.modDev k f).dev k = f (s.dev k) := by
  simp [State.dev, State.modDev, List.getD_eq_getElem?_getD, h]

theorem dev_modDev_other (s : State) {k j : Nat} (f : ActuatorRecord → ActuatorRecord) (h : j ≠ k) :
    (s.modDev k f).dev j = s.dev j := by
  simp [State.dev, State.modDev, List.getD_eq_getElem?_getD, Ne.symm h]

theorem cascade_modCascade_same (s : State) (c : Nat) (f : Cascade → Cascade) (h : c < s.cascades.length) :
    (s.modCascade c f).cascade c = f (s.cascade c) := by
  simp [State.cascade, State.modCascade, List.getD_eq_getElem?_getD, h]

theorem cascade_modCascade_other (s : State) {c j : Nat} (f : Cascade → Cascade) (h : j ≠ c) :
    (s.modCascade c f).cascade j = s.cascade j := by
  simp [State.cascade, State.modCascade, List.getD_eq_getElem?_getD, Ne.symm h]

@[simp] theorem Cascade.loop_modLoop_same (c : Cascade) (l : Loop) (f : PidState → PidState) :
    (c.modLoop l f).loop l = f (c.loop l) := by cases l <;> rfl

theorem Cascade.loop_modLoop_other (c : Cascade) {l m : Loop} (f : PidState → PidState) (h : m ≠ l) :
    (c.modLoop l f).loop m = c.loop m := by cases l <;> cases m <;> first | rfl | exact absurd rfl h

@[simp] theorem Cascade.opmode_modLoop (c : Cascade) (l : Loop) (f : PidState → PidState) :
    (c.modLoop l f).opmode = c.opmode := by cases l <;> rfl

theorem loop_modLoop_same (s : State) (c : Nat) (l : Loop) (f : PidState → PidState) (h : c < s.cascades.length) :
    (s.modLoop c l f).loop c l = f (s.loop c l) := by
  simp [State.loop, State.modLoop, cascade_modCascade_same _ _ _ h]

theorem loop_modLoop_other (s : State) {c j : Nat} {l m : Loop} (f : PidState → PidState) (h : j ≠ c ∨ m ≠ l) :
    (s.modLoop c l f).loop j m = s.loop j m := by
  unfold State.loop State.modLoop
  by_cases hc : j = c
  · subst hc
    rcases h with h | h
    · exact absurd rfl h
    · by_cases hl : j < s.cascades.length
      · rw [cascade_modCascade_same _ _ _ hl, Cascade.loop_modLoop_other _ _ h]
      · simp [State.cascade, State.modCascade, List.getD_eq_getElem?_getD, hl]
  · rw [cascade_modCascade_other _ _ hc]

theorem opmode_modLoop (s : State) (c j : Nat) (l : Loop) (f : PidState → PidState) :
    ((s.modLoop c l f).cascade j).opmode = (s.cascade j).opmode := by
  unfold State.modLoop
  by_cases hc : j = c
  · subst hc
    by_cases hl : j < s.cascades.length
    · rw [cascade_modCascade_same _ _ _ hl, Cascade.opmode_modLoop]
    · simp [State.cascade, State.modCascade, List.getD_eq_getElem?_getD, hl]
  · rw [cascade_modCascade_other _ _ hc]

/-! ### Lookup and the checks -/

/-- `Find(id)` answers an index whose identifier is `id` (R160). -/
theorem find_some {s : State} {id : Nat} {k : Nat} (h : s.find id = some k) :
    k < s.cfg.nDev ∧ s.devId k = id := by
  unfold State.find at h
  obtain ⟨hk, hb, -⟩ := List.findIdx?_eq_some_iff_getElem.mp h
  exact ⟨hk, by simpa [State.devId, List.getD_eq_getElem?_getD, hk] using hb⟩

/-- `Find(id)` is none exactly when no device has the identifier (R160). -/
theorem find_none {s : State} {id : Nat} : s.find id = none ↔ id ∉ s.cfg.devId := by
  unfold State.find
  rw [List.findIdx?_eq_none_iff]
  constructor
  · intro h hm
    simpa using h id hm
  · intro h x hx
    simp only [beq_eq_false_iff_ne]
    rintro rfl
    exact h hx

/-- What a command on a loop can answer. -/
theorem onLoop_cases (dev : Byte) (loop : BitVec 2) (s : State) (act : Loop → Out) :
    (∃ l, Loop.ofBits loop = some l ∧ dev.toNat < s.cfg.nDev ∧ onLoop dev loop s act = act l) ∨
    ((Loop.ofBits loop = none ∨ s.cfg.nDev ≤ dev.toNat) ∧ onLoop dev loop s act = illegal s) := by
  unfold onLoop
  cases hl : Loop.ofBits loop with
  | none => exact .inr ⟨.inl rfl, rfl⟩
  | some l =>
    by_cases hd : dev.toNat < s.cfg.nDev
    · exact .inl ⟨l, rfl, hd, by simp [hd]⟩
    · exact .inr ⟨.inr (by omega), by simp [hd]⟩

/-- What a command on a cascade can answer. -/
theorem onCascade_cases (dev : Byte) (s : State) (act : Out) :
    (dev.toNat < s.cfg.nDev ∧ onCascade dev s act = act) ∨
    (s.cfg.nDev ≤ dev.toNat ∧ onCascade dev s act = illegal s) := by
  unfold onCascade
  by_cases hd : dev.toNat < s.cfg.nDev
  · exact .inl ⟨hd, by simp [hd]⟩
  · exact .inr ⟨by omega, by simp [hd]⟩

/-- What a command on a device can answer. -/
theorem onDevice_cases (dev : Byte) (s : State) (act : Nat → Out) :
    (∃ k, s.find dev.toNat = some k ∧ onDevice dev s act = act k) ∨
    (s.find dev.toNat = none ∧ onDevice dev s act = failWith .deviceNotFound s) := by
  unfold onDevice
  cases h : s.find dev.toNat with
  | none => exact .inr ⟨rfl, rfl⟩
  | some k => exact .inl ⟨k, rfl, rfl⟩

/-- The three loop selects, and the reserved one (R85). -/
theorem Loop.ofBits_none {b : BitVec 2} : Loop.ofBits b = none ↔ b = 3 := by
  revert b; decide

/-! ### The environment -/

/-- When an arrival event is a frame (R237, U13). -/
theorem Arrival.isFrame_iff (a : Arrival) (c : Cfg) : a.isFrame c = true ↔ a.dlc.toNat ≤ 8 ∧ a.id < 2 ^ c.idW := by
  simp [Arrival.isFrame]

/-- What the notifier can answer (R237). -/
theorem notify_cases (a : Arrival) (s : State) :
    (a.isFrame s.cfg = false ∧ notify a s = .refused .arrivalNotAFrame) ∨
    (a.isFrame s.cfg = true ∧ s.find a.id = none ∧ notify a s = .next (s.record (.arrival a))) ∨
    (a.isFrame s.cfg = true ∧ ∃ k, s.find a.id = some k ∧
      notify a s = .next ((s.record (.arrival a)).modDev k (fun r => { r with rx := ⟨a.dlc, a.d⟩, fresh := true }))) := by
  unfold notify
  cases h : a.isFrame s.cfg with
  | false => exact .inl ⟨rfl, by simp⟩
  | true =>
    cases hf : s.find a.id with
    | none => exact .inr (.inl ⟨rfl, rfl, by simp⟩)
    | some k => exact .inr (.inr ⟨rfl, k, rfl, by simp⟩)

/-- The NaN a site draws is a NaN, whichever it is (U8). -/
theorem nan_isNaN (n site : Nat) : F32.isNaN (Config.nan n site) = true := by
  have hf := (Config.nanFrac n site).isLt
  unfold F32.isNaN F32.mag F32.infMag Config.nan
  generalize (Config.nanFrac n site).val = m at hf
  generalize Config.nanSign n site = b
  simp only [decide_eq_true_eq, BitVec.toNat_append, BitVec.toNat_ofNat]
  have h1 : (m + 1) % 2 ^ 23 = m + 1 := Nat.mod_eq_of_lt (by omega)
  rw [h1, ← Nat.shiftLeft_add_eq_or_of_lt (by omega), ← Nat.shiftLeft_add_eq_or_of_lt (by decide)]
  cases b <;> simp [Nat.shiftLeft_eq] <;> omega

/-! ### The floating-point operations of a configuration -/

/-- An operation answers a value, or under binary32 the NaN it was given (U8). -/
theorem Num.getD_cases (o : Option F) (nan : F) : o = some (o.getD nan) ∨ (o = none ∧ o.getD nan = nan) := by
  cases o with
  | none => exact .inr ⟨rfl, rfl⟩
  | some a => exact .inl rfl

/-- Where `trunc` is defined, `Q24Encode` is its value modulo 2^32 (R111). -/
theorem q24Encode_of_trunc {m : Num} {v : F} {t : Int} (h : m.trunc? v 24 = some t) (draw : Word) :
    q24Encode m draw v = BitVec.ofInt 32 t := by
  simp only [q24Encode, h]

/-- Where it is not, it is the draw (U1). -/
theorem q24Encode_of_none {m : Num} {v : F} (h : m.trunc? v 24 = none) (draw : Word) : q24Encode m draw v = draw := by
  simp only [q24Encode, h]

/-! ### Steps of the executor -/

/-- What `S1` can do (R172). -/
theorem sampleBus_cases (call : Call) (x k : Nat) (s : State) :
    (s.busFreeAnswer = true ∧ sampleBus call x k s = s.askBusFree.goTo call x .s2 k 0) ∨
    (s.busFreeAnswer = false ∧ sampleBus call x k s = s.askBusFree.respond .busBusy 0) := by
  unfold sampleBus
  cases h : s.busFreeAnswer <;> simp

/-- What a poll can do (R173). -/
theorem pollStep_cases (call : Call) (x k n : Nat) (s : State) :
    ((s.dev k).fresh = true ∧ pollStep call x k n s = s.goTo call x .s4 k (n + 1)) ∨
    ((s.dev k).fresh = false ∧ n + 1 < s.cfg.timeoutIters ∧ pollStep call x k n s = s.goTo call x .poll k (n + 1)) ∨
    ((s.dev k).fresh = false ∧ s.cfg.timeoutIters ≤ n + 1 ∧ pollStep call x k n s = s.goTo call x .s5a k (n + 1)) := by
  unfold pollStep
  cases hf : (s.dev k).fresh with
  | true => exact .inl ⟨rfl, by simp⟩
  | false =>
    by_cases h : n + 1 < s.cfg.timeoutIters
    · exact .inr (.inl ⟨rfl, h, by simp [h]⟩)
    · exact .inr (.inr ⟨rfl, by omega, by simp [h]⟩)

/-- Decoding writes at most one record, that of the device waited on, and never stops (R178). -/
theorem decodeInto_cases (f : ActuatorRecord → ActuatorRecord) (s : State) :
    (∃ k, s.decoding = some k ∧ decodeInto f s = .next (s.modDev k f)) ∨
    (s.decoding = none ∧ decodeInto f s = .next s) := by
  unfold decodeInto
  cases h : s.decoding with
  | none => exact .inr ⟨rfl, rfl⟩
  | some k => exact .inl ⟨k, rfl, rfl⟩

/-! ### The computations on one record and on one PidState -/

/-- `S5`'s flags: only the phase, the failure counter and the liveness change. -/
theorem settle_frame (c : Cfg) (r : ActuatorRecord) : ∃ p n l, settle c r = { r with phase := p, failCnt := n, live := l } := by
  unfold settle
  split <;> exact ⟨_, _, _, rfl⟩

/-- `S5a`'s flags: likewise. -/
theorem timeOut_frame (c : Cfg) (r : ActuatorRecord) : ∃ n l, timeOut c r = { r with phase := .timedOut, failCnt := n, live := l } :=
  ⟨_, _, rfl⟩

/-- The failure counter saturates at 255 (R177). -/
theorem bumpFailCnt_toNat (n : BitVec 8) : (bumpFailCnt n).toNat = min 255 (n.toNat + 1) := by
  unfold bumpFailCnt
  split <;> bv_omega

/-- A transmission changes, besides the phase, at most one last-commanded field of its record. -/
theorem noteCommanded_frame (s : State) (call : Call) (x k : Nat) (r : ActuatorRecord) :
    ∃ a b c, noteCommanded s call x k r = { r with cmdCurrent := a, cmdSpeed := b, cmdPosition := c } := by
  cases call with
  | setCurrent v => exact ⟨v, r.cmdSpeed, r.cmdPosition, rfl⟩
  | setSpeed v => exact ⟨r.cmdCurrent, v, r.cmdPosition, rfl⟩
  | setPosition v => exact ⟨r.cmdCurrent, r.cmdSpeed, v, rfl⟩
  | driveCycle =>
    unfold noteCommanded
    by_cases h : x = 3
    · exact ⟨(s.loop k .cur).out0, r.cmdSpeed, r.cmdPosition, by rw [if_pos h]⟩
    · exact ⟨r.cmdCurrent, r.cmdSpeed, r.cmdPosition, by rw [if_neg h]⟩
  | _ => exact ⟨r.cmdCurrent, r.cmdSpeed, r.cmdPosition, rfl⟩

/-- `pid.step` writes the two outputs, the three errors and the accumulator, and nothing else. -/
theorem pidStep_frame (m : Num) (nan : Nat → F) (p : PidState) : ∃ a b c d e f, pidStep m nan p =
    { p with out0 := a, out1 := b, err0 := c, err1 := d, err2 := e, integralSum := f } := by
  have h : ∃ c d e f, pidPrepare m nan p = { p with err0 := c, err1 := d, err2 := e, integralSum := f } := by
    unfold pidPrepare integrate
    split
    · split <;> exact ⟨_, _, _, _, rfl⟩
    · exact ⟨_, _, _, _, rfl⟩
  obtain ⟨c, d, e, f, h⟩ := h
  simp only [pidStep, h]
  exact ⟨_, _, _, _, _, _, rfl⟩

/-- `Calculate` keeps the operating mode. -/
@[simp] theorem calculate_opmode (m : Num) (nan : Nat → F) (c : Cascade) : (calculate m nan c).opmode = c.opmode := by
  unfold calculate
  split <;> rfl

/-! ### The steps between exchanges -/

/-- The work between exchanges writes no record and no parameter. -/
theorem driveCascade_frame (k : Nat) (s : State) : (driveCascade k s).devs = s.devs ∧ (driveCascade k s).cfg = s.cfg := by
  unfold driveCascade
  dsimp only
  split <;> exact ⟨rfl, rfl⟩

/-- After a successful exchange a command writes no record and no parameter, and only `drive_cycle` writes a cascade. -/
theorem afterSuccess_frame (call : Call) (x k : Nat) (s : State) :
    (afterSuccess call x k s).devs = s.devs ∧ (afterSuccess call x k s).cfg = s.cfg ∧
    (call ≠ .driveCycle → (afterSuccess call x k s).cascades = s.cascades) := by
  have h := driveCascade_frame k s
  unfold afterSuccess
  split
  · repeat' split
    all_goals exact ⟨rfl, rfl, fun _ => rfl⟩
  · repeat' split
    all_goals exact ⟨rfl, rfl, fun _ => rfl⟩
  · split
    · exact ⟨rfl, rfl, fun _ => rfl⟩
    · split
      · exact ⟨h.1, h.2, fun h => absurd rfl h⟩
      · exact ⟨rfl, rfl, fun _ => rfl⟩
  · exact ⟨rfl, rfl, fun _ => rfl⟩

/-- `S5` writes the flags of its record, and no other record and no parameter. -/
theorem settleStep_frame (call : Call) (x k : Nat) (s : State) :
    (settleStep call x k s).devs = (s.modDev k (settle s.cfg)).devs ∧ (settleStep call x k s).cfg = s.cfg := by
  have h := afterSuccess_frame call x k (s.modDev k (settle s.cfg))
  unfold settleStep
  dsimp only
  split
  · exact ⟨h.1, h.2.1⟩
  · exact ⟨rfl, rfl⟩
  · exact ⟨rfl, rfl⟩

/-- `S3`: either the frame is taken and the wait begins, or it is not and the call ends. -/
theorem transmitStep_cases (call : Call) (x k : Nat) (s : State) :
    (s.busTxAnswer = true ∧ (transmitStep call x k s).seq = .busy call x .poll k 0 ∧
      (transmitStep call x k s).devs = s.devs.modify k (fun r => noteCommanded s call x k (setPhase .awaitingAck r))) ∨
    (s.busTxAnswer = false ∧ (transmitStep call x k s).seq = .ready ∧
      (transmitStep call x k s).devs = s.devs.modify k (setPhase .idle)) := by
  unfold transmitStep
  dsimp only
  cases s.busTxAnswer
  · exact Or.inr ⟨rfl, rfl, rfl⟩
  · exact Or.inl ⟨rfl, rfl, rfl⟩

end Sys2Proof.Machine
end

