-- ==== Sys2Proof/Laws/PerInstr.lean ====
section
/-! SUPPORT. The per-instruction laws: every instruction is written with the number the opcode table gives its row. -/

namespace Sys2Proof.Laws

/-- The number in the low byte of each row of spec/opcode_table.json: `op` of a host command, the placeholder opcode of a frame. -/
def tableNumber : Instr → Byte
  | .pidConfigure _ _ _ _ _ _ => 0x01
  | .pidSetSetpoint _ _ _ => 0x02
  | .pidSetFeedback _ _ _ => 0x03
  | .pidSetFeedforward _ _ _ => 0x04
  | .pidSetGains _ _ _ _ _ => 0x05
  | .pidSetLimits _ _ _ _ => 0x06
  | .pidStep _ _ => 0x07
  | .pidOutput _ _ => 0x08
  | .pidClear _ _ => 0x09
  | .casSetMode _ _ => 0x10
  | .casCalculate _ => 0x11
  | .casSetCurrent _ _ => 0x12
  | .casSetVelocity _ _ => 0x13
  | .casSetPosition _ _ => 0x14
  | .casSetCurrentFf _ _ _ => 0x15
  | .casSetVelocityFf _ _ _ => 0x16
  | .casSetPositionFf _ _ _ => 0x17
  | .q24Encode _ => 0x20
  | .q24Decode _ => 0x21
  | .t8Encode _ => 0x22
  | .t8Decode _ => 0x23
  | .regFind _ => 0x30
  | .regRead _ _ => 0x31
  | .actHandshake _ => 0x40
  | .actGet _ _ => 0x41
  | .actSetCurrent _ _ => 0x42
  | .actSetSpeed _ _ => 0x43
  | .actSetPosition _ _ => 0x44
  | .actSetMode _ _ => 0x45
  | .actSetPower _ _ => 0x46
  | .actSetLimit _ _ _ => 0x47
  | .actSend _ _ _ _ => 0x48
  | .driveCycle _ => 0x50
  | .handshake _ => 0x00
  | .getCurrent _ => 0x01
  | .getSpeed _ => 0x02
  | .getPosition _ => 0x03
  | .setCurrent _ => 0x04
  | .setSpeed _ => 0x05
  | .setPosition _ => 0x06
  | .getMode _ => 0x07
  | .setMode _ => 0x08
  | .getPower _ => 0x09
  | .setPower _ => 0x0A
  | .getCurOutUpper _ => 0x10
  | .getCurOutLower _ => 0x11
  | .getSpdOutUpper _ => 0x12
  | .getSpdOutLower _ => 0x13
  | .getPosOutUpper _ => 0x14
  | .getPosOutLower _ => 0x15
  | .setCurOutUpper _ => 0x18
  | .setCurOutLower _ => 0x19
  | .setSpdOutUpper _ => 0x1A
  | .setSpdOutLower _ => 0x1B
  | .setPosOutUpper _ => 0x1C
  | .setPosOutLower _ => 0x1D
  | .getMotorTemp _ => 0x20
  | .getInverterTemp _ => 0x21
  | .getProfileSpeed _ => 0x22
  | .getProfileAccel _ => 0x23
  | .getProfileDecel _ => 0x24
  | .getTravelUpper _ => 0x25
  | .getTravelLower _ => 0x26
  | .getExceptions _ => 0x27
  | .getShutdownState _ => 0x28

/-- The lowest byte of an encoded instruction: `W0[7:0]` or `d[0]`. -/
def lowByte : Encoded → Byte
  | .host cmd => (hostFields cmd).op
  | .frame _ d => d.d0

/-- The instruction is encoded with its row's number (R86, R91). -/
def TableNumber.Statement (i : Instr) : Prop := lowByte (encode .default i) = tableNumber i

/-- The number of a packed command is the one it was packed with. -/
theorem lowByte_packHost (op dev : Byte) (loop : BitVec 2) (imm8 : Byte) (a b c : Word) :
    lowByte (.host (packHost op dev loop imm8 a b c)) = op := by
  simp only [lowByte, hostFields_packHost]

/-- The number of a packed frame is its kind's opcode. -/
theorem lowByte_packFrame (c : Cfg) (kind : FrameKind) (ans : Answer) :
    lowByte (packFrame c kind ans) = c.opcode kind := rfl

theorem TableNumber.pidConfigure (dev : Byte) (loop : BitVec 2) (mode : Byte) (kp ki kd : F) : TableNumber.Statement (.pidConfigure dev loop mode kp ki kd) := lowByte_packHost ..
theorem TableNumber.pidSetSetpoint (dev : Byte) (loop : BitVec 2) (value : F) : TableNumber.Statement (.pidSetSetpoint dev loop value) := lowByte_packHost ..
theorem TableNumber.pidSetFeedback (dev : Byte) (loop : BitVec 2) (value : F) : TableNumber.Statement (.pidSetFeedback dev loop value) := lowByte_packHost ..
theorem TableNumber.pidSetFeedforward (dev : Byte) (loop : BitVec 2) (value : F) : TableNumber.Statement (.pidSetFeedforward dev loop value) := lowByte_packHost ..
theorem TableNumber.pidSetGains (dev : Byte) (loop : BitVec 2) (kp ki kd : F) : TableNumber.Statement (.pidSetGains dev loop kp ki kd) := lowByte_packHost ..
theorem TableNumber.pidSetLimits (dev : Byte) (loop : BitVec 2) (max min : F) : TableNumber.Statement (.pidSetLimits dev loop max min) := lowByte_packHost ..
theorem TableNumber.pidStep (dev : Byte) (loop : BitVec 2) : TableNumber.Statement (.pidStep dev loop) := lowByte_packHost ..
theorem TableNumber.pidOutput (dev : Byte) (loop : BitVec 2) : TableNumber.Statement (.pidOutput dev loop) := lowByte_packHost ..
theorem TableNumber.pidClear (dev : Byte) (loop : BitVec 2) : TableNumber.Statement (.pidClear dev loop) := lowByte_packHost ..
theorem TableNumber.casSetMode (dev : Byte) (opmode : Byte) : TableNumber.Statement (.casSetMode dev opmode) := lowByte_packHost ..
theorem TableNumber.casCalculate (dev : Byte) : TableNumber.Statement (.casCalculate dev) := lowByte_packHost ..
theorem TableNumber.casSetCurrent (dev : Byte) (value : F) : TableNumber.Statement (.casSetCurrent dev value) := lowByte_packHost ..
theorem TableNumber.casSetVelocity (dev : Byte) (value : F) : TableNumber.Statement (.casSetVelocity dev value) := lowByte_packHost ..
theorem TableNumber.casSetPosition (dev : Byte) (value : F) : TableNumber.Statement (.casSetPosition dev value) := lowByte_packHost ..
theorem TableNumber.casSetCurrentFf (dev : Byte) (value ff : F) : TableNumber.Statement (.casSetCurrentFf dev value ff) := lowByte_packHost ..
theorem TableNumber.casSetVelocityFf (dev : Byte) (value ff : F) : TableNumber.Statement (.casSetVelocityFf dev value ff) := lowByte_packHost ..
theorem TableNumber.casSetPositionFf (dev : Byte) (value ff : F) : TableNumber.Statement (.casSetPositionFf dev value ff) := lowByte_packHost ..
theorem TableNumber.q24Encode (value : F) : TableNumber.Statement (.q24Encode value) := lowByte_packHost ..
theorem TableNumber.q24Decode (word : Word) : TableNumber.Statement (.q24Decode word) := lowByte_packHost ..
theorem TableNumber.t8Encode (value : F) : TableNumber.Statement (.t8Encode value) := lowByte_packHost ..
theorem TableNumber.t8Decode (raw : BitVec 16) : TableNumber.Statement (.t8Decode raw) := lowByte_packHost ..
theorem TableNumber.regFind (dev : Byte) : TableNumber.Statement (.regFind dev) := lowByte_packHost ..
theorem TableNumber.regRead (dev : Byte) (field : Byte) : TableNumber.Statement (.regRead dev field) := lowByte_packHost ..
theorem TableNumber.actHandshake (dev : Byte) : TableNumber.Statement (.actHandshake dev) := lowByte_packHost ..
theorem TableNumber.actGet (dev : Byte) (kind : Byte) : TableNumber.Statement (.actGet dev kind) := lowByte_packHost ..
theorem TableNumber.actSetCurrent (dev : Byte) (value : F) : TableNumber.Statement (.actSetCurrent dev value) := lowByte_packHost ..
theorem TableNumber.actSetSpeed (dev : Byte) (value : F) : TableNumber.Statement (.actSetSpeed dev value) := lowByte_packHost ..
theorem TableNumber.actSetPosition (dev : Byte) (value : F) : TableNumber.Statement (.actSetPosition dev value) := lowByte_packHost ..
theorem TableNumber.actSetMode (dev : Byte) (mode : Byte) : TableNumber.Statement (.actSetMode dev mode) := lowByte_packHost ..
theorem TableNumber.actSetPower (dev : Byte) (power : Byte) : TableNumber.Statement (.actSetPower dev power) := lowByte_packHost ..
theorem TableNumber.actSetLimit (dev : Byte) (kind : Byte) (value : F) : TableNumber.Statement (.actSetLimit dev kind value) := lowByte_packHost ..
theorem TableNumber.actSend (dev : Byte) (dlc : Byte) (a b : Word) : TableNumber.Statement (.actSend dev dlc a b) := lowByte_packHost ..
theorem TableNumber.driveCycle (dev : Byte) : TableNumber.Statement (.driveCycle dev) := lowByte_packHost ..
theorem TableNumber.handshake (ans : Answer) : TableNumber.Statement (.handshake ans) :=
  (lowByte_packFrame .default .handshake ans).trans rfl
theorem TableNumber.getCurrent (ans : Answer) : TableNumber.Statement (.getCurrent ans) :=
  (lowByte_packFrame .default .getCurrent ans).trans rfl
theorem TableNumber.getSpeed (ans : Answer) : TableNumber.Statement (.getSpeed ans) :=
  (lowByte_packFrame .default .getSpeed ans).trans rfl
theorem TableNumber.getPosition (ans : Answer) : TableNumber.Statement (.getPosition ans) :=
  (lowByte_packFrame .default .getPosition ans).trans rfl
theorem TableNumber.setCurrent (ans : Answer) : TableNumber.Statement (.setCurrent ans) :=
  (lowByte_packFrame .default .setCurrent ans).trans rfl
theorem TableNumber.setSpeed (ans : Answer) : TableNumber.Statement (.setSpeed ans) :=
  (lowByte_packFrame .default .setSpeed ans).trans rfl
theorem TableNumber.setPosition (ans : Answer) : TableNumber.Statement (.setPosition ans) :=
  (lowByte_packFrame .default .setPosition ans).trans rfl
theorem TableNumber.getMode (ans : Answer) : TableNumber.Statement (.getMode ans) :=
  (lowByte_packFrame .default .getMode ans).trans rfl
theorem TableNumber.setMode (ans : Answer) : TableNumber.Statement (.setMode ans) :=
  (lowByte_packFrame .default .setMode ans).trans rfl
theorem TableNumber.getPower (ans : Answer) : TableNumber.Statement (.getPower ans) :=
  (lowByte_packFrame .default .getPower ans).trans rfl
theorem TableNumber.setPower (ans : Answer) : TableNumber.Statement (.setPower ans) :=
  (lowByte_packFrame .default .setPower ans).trans rfl
theorem TableNumber.getCurOutUpper (ans : Answer) : TableNumber.Statement (.getCurOutUpper ans) :=
  (lowByte_packFrame .default .getCurOutUpper ans).trans rfl
theorem TableNumber.getCurOutLower (ans : Answer) : TableNumber.Statement (.getCurOutLower ans) :=
  (lowByte_packFrame .default .getCurOutLower ans).trans rfl
theorem TableNumber.getSpdOutUpper (ans : Answer) : TableNumber.Statement (.getSpdOutUpper ans) :=
  (lowByte_packFrame .default .getSpdOutUpper ans).trans rfl
theorem TableNumber.getSpdOutLower (ans : Answer) : TableNumber.Statement (.getSpdOutLower ans) :=
  (lowByte_packFrame .default .getSpdOutLower ans).trans rfl
theorem TableNumber.getPosOutUpper (ans : Answer) : TableNumber.Statement (.getPosOutUpper ans) :=
  (lowByte_packFrame .default .getPosOutUpper ans).trans rfl
theorem TableNumber.getPosOutLower (ans : Answer) : TableNumber.Statement (.getPosOutLower ans) :=
  (lowByte_packFrame .default .getPosOutLower ans).trans rfl
theorem TableNumber.setCurOutUpper (ans : Answer) : TableNumber.Statement (.setCurOutUpper ans) :=
  (lowByte_packFrame .default .setCurOutUpper ans).trans rfl
theorem TableNumber.setCurOutLower (ans : Answer) : TableNumber.Statement (.setCurOutLower ans) :=
  (lowByte_packFrame .default .setCurOutLower ans).trans rfl
theorem TableNumber.setSpdOutUpper (ans : Answer) : TableNumber.Statement (.setSpdOutUpper ans) :=
  (lowByte_packFrame .default .setSpdOutUpper ans).trans rfl
theorem TableNumber.setSpdOutLower (ans : Answer) : TableNumber.Statement (.setSpdOutLower ans) :=
  (lowByte_packFrame .default .setSpdOutLower ans).trans rfl
theorem TableNumber.setPosOutUpper (ans : Answer) : TableNumber.Statement (.setPosOutUpper ans) :=
  (lowByte_packFrame .default .setPosOutUpper ans).trans rfl
theorem TableNumber.setPosOutLower (ans : Answer) : TableNumber.Statement (.setPosOutLower ans) :=
  (lowByte_packFrame .default .setPosOutLower ans).trans rfl
theorem TableNumber.getMotorTemp (ans : Answer) : TableNumber.Statement (.getMotorTemp ans) :=
  (lowByte_packFrame .default .getMotorTemp ans).trans rfl
theorem TableNumber.getInverterTemp (ans : Answer) : TableNumber.Statement (.getInverterTemp ans) :=
  (lowByte_packFrame .default .getInverterTemp ans).trans rfl
theorem TableNumber.getProfileSpeed (ans : Answer) : TableNumber.Statement (.getProfileSpeed ans) :=
  (lowByte_packFrame .default .getProfileSpeed ans).trans rfl
theorem TableNumber.getProfileAccel (ans : Answer) : TableNumber.Statement (.getProfileAccel ans) :=
  (lowByte_packFrame .default .getProfileAccel ans).trans rfl
theorem TableNumber.getProfileDecel (ans : Answer) : TableNumber.Statement (.getProfileDecel ans) :=
  (lowByte_packFrame .default .getProfileDecel ans).trans rfl
theorem TableNumber.getTravelUpper (ans : Answer) : TableNumber.Statement (.getTravelUpper ans) :=
  (lowByte_packFrame .default .getTravelUpper ans).trans rfl
theorem TableNumber.getTravelLower (ans : Answer) : TableNumber.Statement (.getTravelLower ans) :=
  (lowByte_packFrame .default .getTravelLower ans).trans rfl
theorem TableNumber.getExceptions (ans : Answer) : TableNumber.Statement (.getExceptions ans) :=
  (lowByte_packFrame .default .getExceptions ans).trans rfl
theorem TableNumber.getShutdownState (ans : Answer) : TableNumber.Statement (.getShutdownState ans) :=
  (lowByte_packFrame .default .getShutdownState ans).trans rfl

end Sys2Proof.Laws
end

