-- ==== Sys2Proof/Laws/Safety.lean ====
section
/-! SUPPORT. The invariant of Safety.lean as a check that runs, so that a concrete state can be shown to meet it by evaluation. -/

namespace Sys2Proof.Machine

/-- `Seq.awaits` as a Bool. -/
def Seq.awaitsB (q : Seq) (k : Nat) : Bool :=
  match q with
  | .ready => false
  | .busy _ _ p k' _ => decide (k' = k) && [Point.poll, .s4, .s5, .s5a].contains p

theorem Seq.awaitsB_iff (q : Seq) (k : Nat) : q.awaitsB k = true ↔ q.awaits k := by
  cases q with
  | ready => simp [awaitsB, awaits]
  | busy call x p k' n => simp [awaitsB, awaits]

/-- `Seq.inFlight` as a Bool. -/
def Seq.inFlightB (q : Seq) (k : Nat) : Bool :=
  match q with
  | .ready => false
  | .busy _ _ p k' _ => decide (k' = k) && [Point.s3, .poll, .s4, .s5, .s5a].contains p

theorem Seq.inFlightB_iff (q : Seq) (k : Nat) : q.inFlightB k = true ↔ q.inFlight k := by
  cases q with
  | ready => simp [inFlightB, inFlight, awaits]
  | busy call x p k' n => cases p <;> simp [inFlightB, inFlight, awaits]

/-- `Seq.holdsClear` as a Bool. -/
def Seq.holdsClearB (q : Seq) (k : Nat) : Bool :=
  match q with
  | .ready => false
  | .busy _ _ p k' _ => decide (k' = k) && [Point.s3, .poll, .s4, .s5a].contains p

theorem Seq.holdsClearB_iff (q : Seq) (k : Nat) : q.holdsClearB k = true ↔ q.holdsClear k := by
  cases q with
  | ready => simp [holdsClearB, holdsClear]
  | busy call x p k' n => cases p <;> simp [holdsClearB, holdsClear]

/-- `ActuatorRecord.settled` as a Bool. -/
def ActuatorRecord.settledB (r : ActuatorRecord) : Bool :=
  match r.phase with
  | .idle => r.ack == .clear
  | .awaitingAck => false
  | .acked => r.ack == .success
  | .failed => r.ack == .fail
  | .timedOut => r.ack == .clear

theorem ActuatorRecord.settledB_iff (r : ActuatorRecord) : r.settledB = true ↔ r.settled := by
  unfold settledB settled
  cases r.phase <;> simp

/-- `State.callOk` as a Bool. -/
def State.callOkB (s : State) (call : Call) (x k : Nat) : Bool :=
  match call with
  | .get kind => decide (kind ∈ getKinds)
  | .setCurrent v => inUnit s.cfg.num v
  | .setSpeed v => inUnit s.cfg.num v
  | .setPosition v => inPos s.cfg.num v
  | .setLimit kind _ => decide (kind ∈ limitKinds)
  | .send dlc _ => decide (1 ≤ dlc ∧ dlc ≤ 8)
  | .driveCycle => decide (x ≠ 3) || inUnit s.cfg.num (s.loop k .cur).out0
  | _ => true

theorem State.callOkB_iff (s : State) (call : Call) (x k : Nat) : s.callOkB call x k = true ↔ s.callOk call x k := by
  cases call with
  | get kind => exact decide_eq_true_iff
  | setLimit kind v => exact decide_eq_true_iff
  | send dlc d => exact decide_eq_true_iff
  | setCurrent v => exact Iff.rfl
  | setSpeed v => exact Iff.rfl
  | setPosition v => exact Iff.rfl
  | driveCycle =>
    show (decide (x ≠ 3) || inUnit s.cfg.num (s.loop k .cur).out0) = true ↔ (x = 3 → inUnit s.cfg.num (s.loop k .cur).out0 = true)
    by_cases h : x = 3 <;> simp only [h, ne_eq, not_true_eq_false, not_false_eq_true, decide_true, decide_false,
      Bool.true_or, Bool.false_or, forall_const, false_imp_iff]
  | handshake => exact ⟨fun _ => trivial, fun _ => rfl⟩
  | setMode m => exact ⟨fun _ => trivial, fun _ => rfl⟩
  | setPower m => exact ⟨fun _ => trivial, fun _ => rfl⟩

/-- `State.seqOk` as a Bool. -/
def State.seqOkB (s : State) : Bool :=
  match s.seq with
  | .ready => true
  | .busy call x p k n =>
    decide (k < s.cfg.nDev) && decide (x < call.exchanges) && decide (n ≤ s.cfg.timeoutIters) &&
    decide (p = .poll → n < s.cfg.timeoutIters) && s.callOkB call x k

theorem State.seqOkB_iff (s : State) : s.seqOkB = true ↔ s.seqOk := by
  unfold seqOkB seqOk
  cases s.seq with
  | ready => simp only []
  | busy call x p k n =>
    simp only [Bool.and_eq_true, decide_eq_true_eq, State.callOkB_iff, and_assoc]

/-- `PidState.limitsTagged` as a Bool. -/
def PidState.limitsTaggedB (g : Cfg) (p : PidState) : Bool :=
  p.lim == limitOf g p.max p.min || (p.max == fZero && p.min == fZero && p.lim == .unlimited)

theorem PidState.limitsTagged_of_check {g : Cfg} {p : PidState} (h : p.limitsTaggedB g = true) : p.limitsTagged g := by
  simpa only [limitsTaggedB, limitsTagged, Bool.or_eq_true, Bool.and_eq_true, beq_iff_eq, and_assoc] using h

/-- `Cascade.limitsTagged` as a Bool. -/
def Cascade.limitsTaggedB (g : Cfg) (c : Cascade) : Bool :=
  c.pos.limitsTaggedB g && c.vel.limitsTaggedB g && c.cur.limitsTaggedB g

theorem Cascade.limitsTagged_of_check {g : Cfg} {c : Cascade} (h : c.limitsTaggedB g = true) : c.limitsTagged g := by
  simp only [limitsTaggedB, Bool.and_eq_true] at h
  exact ⟨PidState.limitsTagged_of_check h.1.1, PidState.limitsTagged_of_check h.1.2, PidState.limitsTagged_of_check h.2⟩

/-- The invariant as a Bool. -/
def State.invB (s : State) : Bool :=
  s.cfg.wf && decide (s.cascades.length = s.cfg.nDev) && decide (s.devs.length = s.cfg.nDev) &&
  s.cascades.all (Cascade.limitsTaggedB s.cfg) && s.devs.all (fun r => decide (r.rx.dlc.toNat ≤ 8)) &&
  s.devs.all (fun r => decide (r.live = .online → r.failCnt.toNat < s.cfg.offlineThreshold)) && s.seqOkB &&
  (List.range s.cfg.nDev).all (fun k =>
    (decide ((s.dev k).phase = .awaitingAck) == s.seq.awaitsB k) &&
    (!s.seq.holdsClearB k || decide ((s.dev k).ack = .clear)) && (s.seq.inFlightB k || (s.dev k).settledB))

/-- A state that passes the check meets the invariant. -/
theorem State.inv_of_check (s : State) (h : s.invB = true) : s.Inv := by
  simp only [invB, Bool.and_eq_true, decide_eq_true_eq, List.all_eq_true, List.mem_range] at h
  obtain ⟨⟨⟨⟨⟨⟨⟨h1, h2⟩, h3⟩, h4⟩, h5⟩, h6⟩, h7⟩, h8⟩ := h
  refine ⟨h1, h2, h3, fun c hc => Cascade.limitsTagged_of_check (h4 c hc), h5, h6, s.seqOkB_iff.mp h7, fun k hk => ?_,
    fun k hk hc => ?_, fun k hk hn => ?_⟩
  · rw [← Seq.awaitsB_iff, ← (beq_iff_eq.mp (h8 k hk).1.1), decide_eq_true_eq]
  · have := (h8 k hk).1.2
    rw [(Seq.holdsClearB_iff _ _).mpr hc] at this
    simpa using this
  · have := (h8 k hk).2
    rw [Bool.or_eq_true, Seq.inFlightB_iff, ActuatorRecord.settledB_iff] at this
    exact this.resolve_left hn

end Sys2Proof.Machine
end

