-- ==== Sys2Proof/Tests/Slice0.lean ====
section
/-! SUPPORT. Tests of the model against words, tables and vectors of the spec (30_encoding.md, 95_test_vectors.md), and for each
obligation with hypotheses a witness that they can be met. -/

namespace Sys2Proof.Tests

-- One test after the other: kernel evaluations that wait for one another would each hold a thread's stack.
set_option Elab.async false

open Sys2Proof Sys2Proof.Machine Sys2Proof.Spec

/-! ### WellFormed: each check refuses an ill-formed term -/

theorem test_wf_loop : (Instr.pidStep 0 3).wf = false ∧ (Instr.pidStep 0 2).wf = true := by decide
theorem test_wf_loop_all : [Instr.pidConfigure 0 3 0 0 0 0, .pidSetSetpoint 0 3 0, .pidSetFeedback 0 3 0, .pidSetFeedforward 0 3 0,
    .pidSetGains 0 3 0 0 0, .pidSetLimits 0 3 0 0, .pidOutput 0 3, .pidClear 0 3].all (fun i => !i.wf) = true := by decide
theorem test_wf_pid_mode : (Instr.pidConfigure 0 0 2 0 0 0).wf = false ∧ (Instr.pidConfigure 0 0 1 0 0 0).wf = true := by decide
theorem test_wf_opmode : (Instr.casSetMode 0 6).wf = false ∧ (Instr.casSetMode 0 5).wf = true := by decide
theorem test_wf_field : (Instr.regRead 1 32).wf = false ∧ (Instr.regRead 1 31).wf = true := by decide
theorem test_wf_get_kind : (Instr.actGet 1 20).wf = false ∧ (Instr.actGet 1 19).wf = true := by decide
theorem test_wf_limit_kind : (Instr.actSetLimit 1 6 0).wf = false ∧ (Instr.actSetLimit 1 5 0).wf = true := by decide
theorem test_wf_send_dlc : (Instr.actSend 1 0 0 0).wf = false ∧ (Instr.actSend 1 9 0 0).wf = false ∧
    (Instr.actSend 1 8 0 0).wf = true := by decide
theorem test_wf_frame_dlc : (Instr.getSpeed ⟨9, 0, 0, 0, 0, 0, 0, 0⟩).wf = false ∧
    (Instr.getSpeed ⟨8, 0, 0, 0, 0, 0, 0, 0⟩).wf = true := by decide

/-! ### Decoding: every constructor from a word written out by R85, R86, R90 to R92 -/

/-- A command word from `W0 A B C` as the spec writes them. -/
def words (w0 a b c : Word) : BitVec 128 := c ++ b ++ a ++ w0

/-- Every word decodes to the instruction beside it. -/
def reads (rows : List (BitVec 128 × Instr)) : Bool := rows.all (fun r => (decodeHost r.1).toOption = some r.2)

/-- `W0` is `imm8`, 6 reserved bits and `loop`, `dev`, `op` from the top byte down (R85). -/
theorem test_decode_pid : reads
    [(words 0x01010101 0x3F800000 0x3F000000 0x3E800000, .pidConfigure 1 1 1 0x3F800000 0x3F000000 0x3E800000),
     (words 0x00020002 0x41200000 0 0, .pidSetSetpoint 0 2 0x41200000),
     (words 0x00000103 0xC0000000 0 0, .pidSetFeedback 1 0 0xC0000000),
     (words 0x00010004 0x3F000000 0 0, .pidSetFeedforward 0 1 0x3F000000),
     (words 0x00020105 0x3F000000 0x3E800000 0x40000000, .pidSetGains 1 2 0x3F000000 0x3E800000 0x40000000),
     (words 0x00010006 0x40A00000 0xC0A00000 0, .pidSetLimits 0 1 0x40A00000 0xC0A00000),
     (words 0xFF000007 0 0 0, .pidStep 0 0), (words 0x00010107 0 0 0, .pidStep 1 1),
     (words 0x00020008 0 0 0, .pidOutput 0 2), (words 0x00000109 0 0 0, .pidClear 1 0)] = true := by decide

theorem test_decode_cas : reads
    [(words 0x05000110 0 0 0, .casSetMode 1 5), (words 0x00030011 0 0 0, .casCalculate 0),
     (words 0x00000112 0x3F000000 0 0, .casSetCurrent 1 0x3F000000),
     (words 0x00000013 0x40000000 0 0, .casSetVelocity 0 0x40000000),
     (words 0x00000014 0x41200000 0 0, .casSetPosition 0 0x41200000),
     (words 0x00000015 0x3F000000 0x3E000000 0, .casSetCurrentFf 0 0x3F000000 0x3E000000),
     (words 0x00000116 0x40000000 0x3E800000 0, .casSetVelocityFf 1 0x40000000 0x3E800000),
     (words 0x00000017 0x41200000 0x3F800000 0, .casSetPositionFf 0 0x41200000 0x3F800000)] = true := by decide

theorem test_decode_codec_registry : reads
    [(words 0x0000FF20 0x3F800000 0 0, .q24Encode 0x3F800000), (words 0x00000021 0xFF000000 0 0, .q24Decode 0xFF000000),
     (words 0x00000022 0x41CC0000 0 0, .t8Encode 0x41CC0000), (words 0x00000023 0xABCD1980 0 0, .t8Decode 0x1980),
     (words 0x00000230 0 0 0, .regFind 2), (words 0x1F000131 0 0 0, .regRead 1 31)] = true := by decide

theorem test_decode_calls : reads
    [(words 0x00000140 0 0 0, .actHandshake 1), (words 0x13000241 0 0 0, .actGet 2 19),
     (words 0x00000142 0x3F000000 0 0, .actSetCurrent 1 0x3F000000),
     (words 0x00000143 0xBF800000 0 0, .actSetSpeed 1 0xBF800000),
     (words 0x00000144 0xC2FE0000 0 0, .actSetPosition 1 0xC2FE0000),
     (words 0x03000145 0 0 0, .actSetMode 1 3), (words 0x7E000146 0 0 0, .actSetPower 1 0x7E),
     (words 0x05000147 0x3F400000 0 0, .actSetLimit 1 5 0x3F400000),
     (words 0x01000248 0x07000000 0 0, .actSend 2 1 0x07000000 0),
     (words 0x08000148 0x7F010203 0x04050607 0, .actSend 1 8 0x7F010203 0x04050607),
     (words 0x00000150 0 0 0, .driveCycle 1)] = true := by decide

/-- The words of vector ILL that no instruction has. -/
theorem test_decode_illegal : [0x00000000, 0x0000000A, 0x00000018, 0x00000024, 0x00000032, 0x00000049, 0x00000051, 0x000000FF,
    0x00040007, 0x00800007, 0x00030007, 0x02000001, 0x06000010, 0x20000131, 0x14000141, 0x06000147, 0x00000148,
    0x09000148].all (fun w => (decodeHost (words (BitVec.ofNat 32 w) 0 0 0)).toOption = none) = true := by decide

/-- The answer `op 11 12 13 14 15 16 17` of length `dlc` decodes to the instruction beside it. -/
def answers (dlc : BitVec 4) (rows : List (Byte × (Answer → Instr))) : Bool :=
  rows.all (fun r => (decodeFrame .default dlc ⟨r.1, 0x11, 0x12, 0x13, 0x14, 0x15, 0x16, 0x17⟩).toOption =
    some (r.2 ⟨dlc, 0x11, 0x12, 0x13, 0x14, 0x15, 0x16, 0x17⟩))

theorem test_decode_status_frames : answers 2
    [(0x00, .handshake), (0x04, .setCurrent), (0x05, .setSpeed), (0x06, .setPosition), (0x08, .setMode), (0x0A, .setPower),
     (0x18, .setCurOutUpper), (0x19, .setCurOutLower), (0x1A, .setSpdOutUpper), (0x1B, .setSpdOutLower),
     (0x1C, .setPosOutUpper), (0x1D, .setPosOutLower)] = true := by decide

theorem test_decode_q24_frames : answers 5
    [(0x01, .getCurrent), (0x02, .getSpeed), (0x03, .getPosition), (0x10, .getCurOutUpper), (0x11, .getCurOutLower),
     (0x12, .getSpdOutUpper), (0x13, .getSpdOutLower), (0x14, .getPosOutUpper), (0x15, .getPosOutLower),
     (0x22, .getProfileSpeed), (0x23, .getProfileAccel), (0x24, .getProfileDecel), (0x25, .getTravelUpper),
     (0x26, .getTravelLower)] = true := by decide

theorem test_decode_t8_byte_frames : answers 3
    [(0x20, .getMotorTemp), (0x21, .getInverterTemp), (0x07, .getMode), (0x09, .getPower), (0x27, .getExceptions),
     (0x28, .getShutdownState)] = true := by decide

theorem test_decode_unknown_opcode : (decodeFrame .default 2 ⟨0x7F, 1, 0, 0, 0, 0, 0, 0⟩).toOption = none := by decide

/-- The table's rows as numbers: a host row by its `W0`, a frame row by `d[0]`. -/
theorem test_table_words : decodeTableWord 128 0x00000007 = some (.pidStep 0 0) ∧
    decodeTableWord 128 0x01000148 = some (.actSend 1 1 0 0) ∧
    decodeTableWord 8 0x03 = some (.getPosition ⟨5, 0, 0, 0, 0, 0, 0, 0⟩) ∧ decodeTableWord 8 0x7F = none := by decide

/-! ### One step on a small state -/

/-- The reset state with a bus that is free and takes every frame offered in a test. -/
def core : State := { State.reset with busFree := [true], busTx := [true] }

/-- The next state of one step passes a check. -/
def after (s : State) (check : State → Bool) : Bool :=
  match step s with
  | .next t => check t
  | _ => false

/-- The state with a command word at the host port. -/
def host (s : State) (w0 : Word) (a b c : Word := 0) : State := { s with inputs := [.command (words w0 a b c)] }

/-- The response of a step on a command word. -/
def answer (s : State) (w0 : Word) (a b c : Word := 0) : Option Response :=
  match step (host s w0 a b c) with
  | .next t => t.rsp
  | _ => none

/-- Cascade 0 with one PidState in its position loop. -/
def withLoop (p : PidState) : State := core.modLoop 0 .pos (fun _ => p)

/-- The position loop of cascade 0 after a command word. -/
def loopAfter (p : PidState) (w0 : Word) (a b c : Word := 0) (check : PidState → Bool) : Bool :=
  after (host (withLoop p) w0 a b c) (fun t => t.rsp == some ⟨.success, 0⟩ && check (t.loop 0 .pos))

/-- The loop of vector PID-1, configured and with its setpoint. -/
def pid1 : PidState :=
  { PidState.reset with
    mode := .regular, kp := 0x40000000, ki := 0x3F000000, kd := 0x3E800000, max := 0x40800000, min := 0xC0800000,
    lim := .bounded, setpoint := 0x40000000 }

/-- PID-1, row 1: errors [2, 0, 0], sum 2.0, law 4.5, output clamped to 4.0. -/
theorem test_pidStep_regular : loopAfter pid1 0x00000007 (check := fun p =>
    p == { pid1 with err0 := 0x40000000, integralSum := 0x40000000, out1 := 0x40900000, out0 := 0x40800000 }) = true := by
  decide +kernel

/-- PID-2, row 2: from errors [2, 0, 0] and `out[1]` 3.5 the Increment law gives 4.0 and the sum stays 0. -/
theorem test_pidStep_increment : loopAfter { PidState.reset with
      kp := 0x3F800000, ki := 0x3F000000, kd := 0x3E800000, setpoint := 0x40000000, err0 := 0x40000000, out1 := 0x40600000 }
    0x00000007 (check := fun p => p.out1 == 0x40800000 && p.out0 == 0x40800000 && p.integralSum == 0 &&
      p.err1 == 0x40000000) = true := by decide +kernel

/-- `pid.configure c0.pos, regular, 1.0, 0.5, 0.25` keeps the limits (R121). -/
theorem test_pidConfigure : loopAfter { pid1 with out0 := 0x40800000, err0 := 0x40000000 } 0x01000001 0x3F800000 0x3F000000 0x3E800000
    (fun p => p == { PidState.reset with
      mode := .regular, kp := 0x3F800000, ki := 0x3F000000, kd := 0x3E800000, max := 0x40800000, min := 0xC0800000,
      lim := .bounded }) = true := by decide

/-- PID-9: a setter does not recompute. -/
theorem test_pidSetSetpoint : loopAfter { pid1 with out0 := 0x40800000 } 0x00000002 0x41100000
    (check := fun p => p == { pid1 with out0 := 0x40800000, setpoint := 0x41100000 }) = true := by decide
theorem test_pidSetFeedback : loopAfter pid1 0x00000003 0x40400000
    (check := fun p => p == { pid1 with feedback := 0x40400000 }) = true := by decide
theorem test_pidSetFeedforward : loopAfter pid1 0x00000004 0x3F000000
    (check := fun p => p == { pid1 with feedforward := 0x3F000000 }) = true := by decide
theorem test_pidSetGains : loopAfter { pid1 with integralSum := 0x40000000 } 0x00000005 0 0x3F800000 0x40000000
    (fun p => p == { pid1 with integralSum := 0x40000000, kp := 0, ki := 0x3F800000, kd := 0x40000000 }) = true := by decide

/-- Vector LIM: max, min and the tag. -/
theorem test_pidSetLimits : [(0x40A00000, 0xC0A00000, Limit.bounded), (0xBF800000, 0x3F800000, .collapsed), (0, 0, .unlimited),
    (0x40E00000, 0x40E00000, .unlimited), (0x3F8147AE, 0x3F800000, .unlimited), (0, 0x3BA3D70A, .unlimited),
    (0, 0x3C23D70A, .collapsed), (0, 0x3CA3D70A, .collapsed), (0x3C800000, 0, .bounded), (0x3C000000, 0, .unlimited),
    (0x7FC00000, 0, .bounded), (0x7F800000, 0xFF800000, .bounded)].all (fun r =>
      loopAfter pid1 0x00000006 r.1 r.2.1 (check := fun p => p.max == r.1 && p.min == r.2.1 && p.lim == r.2.2)) = true := by
  decide +kernel

/-- The example of R130: after the example of R128, `pid.output` returns 4.0. -/
theorem test_pidOutput : answer (withLoop { pid1 with out0 := 0x40800000, out1 := 0x40900000 }) 0x00000008 =
    some ⟨.success, 0x40800000⟩ := by decide
theorem test_pidClear : loopAfter { pid1 with out0 := 0x40800000, out1 := 0x40900000, integralSum := 0x40000000, feedforward := 1 }
    0x00000009 (check := fun p => p == { pid1 with setpoint := 0 }) = true := by decide

/-- PID-4, step 2: a Collapsed loop that is beyond zero does not accumulate a positive error, and puts out +0.0. -/
theorem test_pidStep_collapsed : loopAfter { PidState.reset with
      mode := .regular, kp := 0x3F800000, ki := 0x3F800000, max := 0xBF800000, min := 0x3F800000, lim := .collapsed,
      setpoint := 0x40000000, err0 := 0x40000000, integralSum := 0x40000000, out1 := 0x40800000 }
    0x00000007 (check := fun p => p.integralSum == 0x40000000 && p.out1 == 0x40800000 && p.out0 == 0) = true := by
  decide +kernel

/-- A cascade of three Regular loops with the proportional gains of CAS-1 (1.0, 0.5, 0.25). -/
def cas1 (m : OpMode) : Cascade :=
  ⟨m, { PidState.reset with mode := .regular, kp := 0x3F800000 }, { PidState.reset with mode := .regular, kp := 0x3F000000 },
    { PidState.reset with mode := .regular, kp := 0x3E800000 }⟩

def withCascade (c : Cascade) : State := core.modCascade 0 (fun _ => c)

/-- CAS-1: 10.0 passes through the three loops to 1.25. -/
theorem test_casCalculate_position : after (host ((withCascade (cas1 .positionMode)).modLoop 0 .pos
      (fun p => { p with setpoint := 0x41200000 })) 0x00000011) (fun t =>
    t.rsp == some ⟨.success, 0x3FA00000⟩ && (t.loop 0 .vel).setpoint == 0x41200000 && (t.loop 0 .vel).out0 == 0x40A00000 &&
    (t.loop 0 .cur).setpoint == 0x40A00000 && (t.loop 0 .cur).out1 == 0x3FA00000 && (t.loop 0 .pos).err0 == 0x41200000) =
    true := by decide +kernel

/-- CAS-2: in a Velocity mode the position loop is untouched. -/
theorem test_casCalculate_velocity : after (host (((withCascade (cas1 .velocityMode)).modLoop 0 .vel
      (fun p => { p with setpoint := 0x40000000 })).modLoop 0 .pos (fun p => { p with setpoint := 0x42C60000 })) 0x00000011)
    (fun t => t.rsp == some ⟨.success, 0x3E800000⟩ &&
      t.loop 0 .pos == { (cas1 .velocityMode).pos with setpoint := 0x42C60000 } &&
      (t.loop 0 .cur).setpoint == 0x3F800000) = true := by decide +kernel

/-- CAS-7: which setter (op 0x12, 0x15, 0x13, 0x16, 0x14, 0x17) succeeds in which mode, in the order of R31. -/
theorem test_cas_setters_by_mode : (List.zip OpMode.all [0x12, 0x15, 0x13, 0x16, 0x14, 0x17]).all (fun r =>
    [0x12, 0x13, 0x14, 0x15, 0x16, 0x17].all (fun op =>
      answer (withCascade (cas1 r.1)) op 0x3F000000 0x3E000000 ==
        some (if op = r.2 then ⟨.success, 0⟩ else ⟨.modeMismatch, 0⟩))) = true := by decide

theorem test_casSetCurrent : after (host (withCascade (cas1 .currentMode)) 0x12 0x3F000000)
    (fun t => (t.loop 0 .cur).setpoint == 0x3F000000 && (t.loop 0 .vel).setpoint == 0) = true := by decide
theorem test_casSetVelocity : after (host (withCascade (cas1 .velocityMode)) 0x13 0x40000000)
    (fun t => (t.loop 0 .vel).setpoint == 0x40000000 && (t.loop 0 .cur).setpoint == 0) = true := by decide
theorem test_casSetPosition : after (host (withCascade (cas1 .positionMode)) 0x14 0x41200000)
    (fun t => (t.loop 0 .pos).setpoint == 0x41200000 && (t.loop 0 .vel).setpoint == 0) = true := by decide
theorem test_casSetCurrentFf : after (host (withCascade (cas1 .currentFFMode)) 0x15 0x3F000000 0x3E000000)
    (fun t => (t.loop 0 .cur).setpoint == 0x3F000000 && (t.loop 0 .cur).feedforward == 0x3E000000) = true := by decide
theorem test_casSetVelocityFf : after (host (withCascade (cas1 .velocityFFMode)) 0x16 0x40000000 0x3E800000)
    (fun t => (t.loop 0 .vel).setpoint == 0x40000000 && (t.loop 0 .vel).feedforward == 0x3E800000) = true := by decide
theorem test_casSetPositionFf : after (host (withCascade (cas1 .positionFFMode)) 0x17 0x41200000 0x3F800000)
    (fun t => (t.loop 0 .pos).setpoint == 0x41200000 && (t.loop 0 .pos).feedforward == 0x3F800000) = true := by decide

/-- CAS-8: the buffers go also when the mode stays; the gains stay. -/
theorem test_casSetMode : after (host ((withCascade (cas1 .positionMode)).modLoop 0 .pos
      (fun p => { p with setpoint := 0x41200000, out1 := 1 })) 0x04000010)
    (fun t => t.rsp == some ⟨.success, 0⟩ && t.cascade 0 == cas1 .positionMode && t.cascade 1 == Cascade.reset) = true := by decide

/-- Vector Q24-E, the rows with a stated word. -/
theorem test_q24Encode : [(0x00000000, 0x00000000), (0x80000000, 0x00000000), (0x3F800000, 0x01000000), (0xBF800000, 0xFF000000),
    (0x41280000, 0x0A800000), (0xC2FE0000, 0x81000000), (0x42FFFFFF, 0x7FFFFF80), (0x43000000, 0x80000000),
    (0xC3000000, 0x80000000), (0x43480000, 0xC8000000), (0x33800000, 0x00000001), (0xB3000000, 0x00000000),
    (0x33F33333, 0x00000001), (0xB3F33333, 0xFFFFFFFF), (0xBDCCCCCD, 0xFFE66667), (0x40490FDB, 0x03243F6C)].all (fun r =>
      answer core 0x20 r.1 == some ⟨.success, r.2⟩) = true := by decide +kernel

/-- Vector Q24-D. -/
theorem test_q24Decode : [(0x00000000, 0x00000000), (0xFF000000, 0xBF800000), (0x0A800000, 0x41280000), (0x81000000, 0xC2FE0000),
    (0x80000000, 0xC3000000), (0xC8000000, 0xC2600000), (0x00000001, 0x33800000), (0xFFFFFFFF, 0xB3800000),
    (0x7FFFFFFF, 0x43000000), (0x01000001, 0x3F800000), (0x00199999, 0x3DCCCCC8)].all (fun r =>
      answer core 0x21 r.1 == some ⟨.success, r.2⟩) = true := by decide +kernel

/-- Vector T8-E. -/
theorem test_t8Encode : [(0x41CC0000, 0x1980), (0x42126666, 0x2499), (0x437FFF00, 0xFFFF), (0x43800000, 0x0000),
    (0xBF800000, 0xFF00)].all (fun r => answer core 0x22 r.1 == some ⟨.success, r.2⟩) = true := by decide +kernel

/-- Vector T8-D; bits 31 to 16 of the operand are ignored. -/
theorem test_t8Decode : [(0x1980, 0x41CC0000), (0x0001, 0x3B800000), (0xFF00, 0x437F0000), (0xFFFF, 0x437FFF00),
    (0x2499, 0x42126400), (0x0000, 0x00000000), (0xABCD1980, 0x41CC0000)].all (fun r =>
      answer core 0x23 r.1 == some ⟨.success, r.2⟩) = true := by decide +kernel

/-- Vector REG-1. -/
theorem test_regFind : [(0x130, Response.mk .success 0), (0x230, ⟨.success, 1⟩), (0x030, ⟨.deviceNotFound, 0⟩),
    (0xFF30, ⟨.deviceNotFound, 0⟩)].all (fun r => answer core r.1 == some r.2) = true := by decide

/-- Vectors REG-2 and REG-3. -/
theorem test_regRead_reset : ((List.range 32).all (fun f =>
      answer core (BitVec.ofNat 32 (f * 2 ^ 24 + 0x231)) == some ⟨.success, if f = 0 then 2 else 0⟩) &&
    answer core 0x20000131 == some ⟨.illegalCommand, 0⟩ && answer core 0x20000931 == some ⟨.illegalCommand, 0⟩ &&
    answer core 0x01000931 == some ⟨.deviceNotFound, 0⟩) = true := by decide

/-- Vector REG-4: a frame that nobody waits for is stored and not decoded. -/
theorem test_regRead_slot : after { core with inputs := [.arrival ⟨1, 5, ⟨0x03, 0x0A, 0x80, 0, 0, 0, 0, 0⟩⟩] } (fun t =>
    answer t 0x04000131 == some ⟨.success, 1⟩ && answer t 0x1D000131 == some ⟨.success, 5⟩ &&
    answer t 0x1E000131 == some ⟨.success, 0x030A8000⟩ && answer t 0x0A000131 == some ⟨.success, 0⟩) = true := by decide

/-- The executor on device 0 at a point of an exchange. -/
def at_ (call : Call) (x : Nat) (p : Point) : State := { core with seq := .busy call x p 0 0 }

/-- The first step of every protocol call on device #1: it starts its exchange. -/
theorem test_calls_start : [(0x00000140, 0, Call.handshake), (0x02000141, 0, .get .getPosition), (0x142, 0xBF800000, .setCurrent 0xBF800000),
    (0x143, 0x3F800000, .setSpeed 0x3F800000), (0x144, 0xC2FE0000, .setPosition 0xC2FE0000), (0x03000145, 0, .setMode 3),
    (0x01000146, 0, .setPower 1), (0x00000147, 0x3F400000, .setLimit .setCurOutUpper 0x3F400000),
    (0x01000148, 0x07000000, .send 1 ⟨0x07, 0, 0, 0, 0, 0, 0, 0⟩), (0x050, 0, .driveCycle)].all (fun r =>
      after (host core r.1 r.2.1) (fun t => t.seq == .busy r.2.2 0 .s2 0 0 && t.rsp == none &&
        t.history.head? == some (.busFree true))) = true := by decide

/-- The frames of vectors PROTO-1, 8, 14, RNG, MODE, POWER and RAW, and of the four exchanges of P3's cycle. -/
theorem test_calls_transmit : [(Call.handshake, 0, [0x00]), (.get .getPosition, 0, [0x03]), (.setCurrent 0x3F000000, 0, [0x04, 0x00, 0x80, 0x00, 0x00]),
    (.setSpeed 0xBF800000, 0, [0x05, 0xFF, 0x00, 0x00, 0x00]), (.setPosition 0x42FFFFFF, 0, [0x06, 0x7F, 0xFF, 0xFF, 0x80]),
    (.setMode 3, 0, [0x08, 0x03]), (.setMode 3, 1, [0x07]), (.setPower 0x7E, 0, [0x0A, 0x7E]), (.setPower 1, 1, [0x09]),
    (.setLimit .setCurOutUpper 0x43480000, 0, [0x18, 0xC8, 0x00, 0x00, 0x00]),
    (.send 8 ⟨0x7F, 1, 2, 3, 4, 5, 6, 7⟩, 0, [0x7F, 1, 2, 3, 4, 5, 6, 7]), (.driveCycle, 0, [0x01]), (.driveCycle, 1, [0x02]),
    (.driveCycle, 2, [0x03]), (.driveCycle, 3, [0x04, 0x00, 0x00, 0x00, 0x00])].all (fun r =>
      after (at_ r.1 r.2.1 .s3) (fun t => t.history.head? == some (.busTx ⟨1, r.2.2⟩ true) && (t.dev 0).phase == .awaitingAck &&
        t.seq == .busy r.1 r.2.1 .poll 0 0)) = true := by decide +kernel

/-- Vectors RNG and ORD: what ends before any bus activity. -/
theorem test_calls_checks : [(0x144, 0xC2FF0000, Result.outOfRange), (0x144, 0xC2FE0001, .outOfRange), (0x144, 0x43000000, .outOfRange),
    (0x144, 0x7FC00000, .outOfRange), (0x143, 0x3F800001, .outOfRange), (0x142, 0xBF800001, .outOfRange),
    (0x142, 0x7F800000, .outOfRange), (0x944, 0x43FA0000, .deviceNotFound), (0x19000941, 0, .illegalCommand),
    (0x07000947, 0x7FC00000, .illegalCommand), (0x00000148, 0, .illegalCommand), (0x09000148, 0, .illegalCommand),
    (0x00000250, 0, .illegalCommand), (0x00000211, 0, .illegalCommand), (0x00000207, 0, .illegalCommand)].all (fun r =>
      after (host core r.1 r.2.1) (fun t => t.rsp == some ⟨r.2.2, 0⟩ && t.busFree == [true])) = true := by decide +kernel

/-- R230: the numbers of results at the response port. -/
theorem test_result_codes : [(0x030, (0x01, 0)), (0x130, (0x00, 0)), (0x00040007, (0x08, 0)), (0x14, (0x07, 0))].all (fun r =>
    after (host core r.1) (fun t => t.hostResponse == some r.2)) = true ∧
    after (host core 0x142 0x40000000) (fun t => t.hostResponse == some (0x02, 0)) = true ∧
    after (host { core with busFree := [false] } 0x140) (fun t => t.hostResponse == some (0x03, 0)) = true ∧
    after { at_ .handshake 0 .s3 with busTx := [false] } (fun t => t.hostResponse == some (0x04, 0)) = true ∧
    after ((at_ .handshake 0 .s5).modDev 0 (fun r => { r with ack := .fail })) (fun t => t.hostResponse == some (0x06, 0)) =
      true := by decide +kernel

/-- The executor at S4 with a frame in the slot of device 0. -/
def slot (dlc : BitVec 4) (d : Bytes8) : State := (at_ .handshake 0 .s4).modDev 0 (fun r => { r with rx := ⟨dlc, d⟩ })

/-- The record of device 0 after decoding is the one expected, and the executor is at S5. -/
def decodes (dlc : BitVec 4) (d : Bytes8) (r : ActuatorRecord) : Bool :=
  after (slot dlc d) (fun t => t.dev 0 == { r with rx := ⟨dlc, d⟩ } && t.seq == .busy .handshake 0 .s5 0 0)

/-- The record of device 0 after reset with `ack` Success. -/
def acked : ActuatorRecord := { ActuatorRecord.reset .default with ack := .success }

/-- PROTO-1, PROTO-7, PROTO-25 and R179: every STATUS kind, status bytes 0x01 and 0x00. -/
theorem test_status_frames : [0x00, 0x04, 0x05, 0x06, 0x08, 0x0A, 0x18, 0x19, 0x1A, 0x1B, 0x1C, 0x1D].all (fun op =>
    decodes 2 ⟨op, 0x01, 0, 0, 0, 0, 0, 0⟩ acked &&
    decodes 2 ⟨op, 0x00, 0, 0, 0, 0, 0, 0⟩ { acked with ack := .fail }) = true := by decide

/-- PROTO-8, PROTO-9, PROTO-10 and R181, R182: 0A800000 is 10.5, in the field that R43 pairs with the kind. -/
theorem test_q24_frames : [(0x01, { acked with current := 0x41280000 }), (0x02, { acked with speed := 0x41280000 }),
    (0x03, { acked with position := 0x41280000 }), (0x10, { acked with curOutUpper := 0x41280000 }),
    (0x11, { acked with curOutLower := 0x41280000 }), (0x12, { acked with spdOutUpper := 0x41280000 }),
    (0x13, { acked with spdOutLower := 0x41280000 }), (0x14, { acked with posOutUpper := 0x41280000 }),
    (0x15, { acked with posOutLower := 0x41280000 }), (0x22, { acked with profileSpeed := 0x41280000 }),
    (0x23, { acked with profileAccel := 0x41280000 }), (0x24, { acked with profileDecel := 0x41280000 }),
    (0x25, { acked with travelUpper := 0x41280000 }), (0x26, { acked with travelLower := 0x41280000 })].all (fun r =>
      decodes 5 ⟨r.1, 0x0A, 0x80, 0, 0, 0, 0, 0⟩ r.2 && decodes 4 ⟨r.1, 0x0A, 0x80, 0, 0, 0, 0, 0⟩ (ActuatorRecord.reset .default) &&
      decodes 6 ⟨r.1, 0x0A, 0x80, 0, 0, 0, 0, 0⟩ (ActuatorRecord.reset .default)) = true := by decide +kernel

/-- PROTO-16 to PROTO-18 and PROTO-21 to PROTO-23. -/
theorem test_t8_byte_frames : (decodes 3 ⟨0x20, 0x19, 0x80, 0, 0, 0, 0, 0⟩ { acked with motorTemp := 0x41CC0000 } &&
    decodes 3 ⟨0x21, 0x24, 0x99, 0, 0, 0, 0, 0⟩ { acked with inverterTemp := 0x42126400 } &&
    decodes 2 ⟨0x27, 0x84, 0, 0, 0, 0, 0, 0⟩ { acked with exception := 0x84 } &&
    decodes 2 ⟨0x07, 0x05, 0, 0, 0, 0, 0, 0⟩ { acked with runMode := 0x05 } &&
    decodes 2 ⟨0x09, 0x01, 0, 0, 0, 0, 0, 0⟩ { acked with power := 0x01 } &&
    decodes 2 ⟨0x28, 0x02, 0, 0, 0, 0, 0, 0⟩ { acked with shutdown := 0x02 } &&
    decodes 2 ⟨0x7F, 0x01, 0, 0, 0, 0, 0, 0⟩ (ActuatorRecord.reset .default)) = true := by decide +kernel

/-- The host places a row of the table and the next step runs it. -/
theorem test_withFetchWord : after (State.reset.withFetchWord 128 0x00000007) (fun t => t.rsp == some ⟨.success, 0⟩) = true ∧
    after (State.reset.withFetchWord 8 0x03) (fun t => t.seq == .busy .handshake 0 .s5 0 1 && (t.dev 0).ack == .success) = true := by
  decide +kernel

/-! ### Witnesses: for each obligation with hypotheses, a state and operands that meet them -/

theorem reset_inv : State.reset.Inv := State.inv_of_check _ (by decide +kernel)
theorem core_inv : core.Inv := State.inv_of_check _ (by decide +kernel)

/-- A state of an exchange on device 0: the point, the polls made, the flags of the record. -/
def exchange (call : Call) (x : Nat) (p : Point) (n : Nat) (phase : Phase) (ack : Ack) (fresh : Bool := false) : State :=
  { core.modDev 0 (fun r => { r with phase := phase, ack := ack, fresh := fresh }) with seq := .busy call x p 0 n }

/-- The device numbers, loops and lengths that the PID and cascade statements ask for, at the ends of their ranges. -/
theorem witness_cascade_index : core.cascades.length = core.cfg.nDev ∧ core.devs.length = core.cfg.nDev ∧
    (0 : Byte).toNat < core.cfg.nDev ∧ (1 : Byte).toNat < core.cfg.nDev ∧ core.cfg.nDev ≤ (2 : Byte).toNat ∧
    (0, Loop.pos) ∈ loopRows ∧ (1, Loop.vel) ∈ loopRows ∧ (2, Loop.cur) ∈ loopRows := by decide

theorem witness_ResetZeroesThePidFile : 0 < Cfg.default.nDev ∧ 1 < Cfg.default.nDev := by decide
theorem witness_ResetRestoresTheRegistry : 0 < Cfg.default.nDev ∧ 1 < Cfg.default.nDev := by decide
theorem witness_ResetStepRestoresEveryRegister :
    { exchange .handshake 0 .poll 2 .awaitingAck .clear with inputs := [.reset] }.inputs = .reset :: [] := rfl
theorem witness_DecodeOfEncodeIsTheInstruction : Cfg.default.wf = true ∧
    [Instr.pidConfigure 255 2 1 0xFFFFFFFF 0xFFFFFFFF 0xFFFFFFFF, .casSetMode 255 5, .t8Decode 0xFFFF, .regRead 255 31,
     .actGet 255 19, .actSetLimit 255 5 0xFFFFFFFF, .actSend 255 1 0 0, .actSend 255 8 0xFFFFFFFF 0xFFFFFFFF, .driveCycle 255,
     .getSpeed ⟨8, 0xFF, 0xFF, 0xFF, 0xFF, 0xFF, 0xFF, 0xFF⟩].all Instr.wf = true := by decide
theorem witness_DecodedInstructionsAreWellFormed :
    decode .default (.host (words 0x08000148 1 2 0)) = .ok (.actSend 1 8 1 2) ∧
    decode .default (.frame 8 ⟨0x20, 1, 2, 3, 4, 5, 6, 7⟩) = .ok (.getMotorTemp ⟨8, 1, 2, 3, 4, 5, 6, 7⟩) := ⟨rfl, rfl⟩

/-- Words at both sides of every condition of R87 (vector ILL). -/
theorem witness_CommandIsIllegalExactlyWhenR87Says : (host core 0x31).seq = .ready ∧
    (host core 0x31).inputs = .command (words 0x31 0 0 0) :: [] ∧
    [0x00000000, 0x0000000A, 0x00000018, 0x00000024, 0x00000032, 0x00000049, 0x00000051, 0x000000FF, 0x00040007, 0x00800007,
     0x00030007, 0x00000207, 0x02000001, 0x06000010, 0x00000211, 0x00000250, 0x20000131, 0x14000141, 0x06000147, 0x00000148,
     0x09000148].all (fun w => illegalWord core.cfg.nDev (words w 0 0 0)) = true ∧
    [0x00000101, 0x01000101, 0x00020109, 0x05000110, 0x00030011, 0xFF000007, 0x0000FF20, 0x1F000131, 0x13000141, 0x05000147,
     0x01000148, 0x08000148, 0x00000150, 0xFF000145].all (fun w => !illegalWord core.cfg.nDev (words w 0 0 0)) = true := by
  decide
theorem witness_StepRunsTheDecodedCommand : (host core 0x00000107).seq = .ready ∧
    (host core 0x00000107).inputs = .command (words 0x00000107 0 0 0) :: [] ∧
    decodeHost (words 0x00000107 0 0 0) = .ok (.pidStep 1 0) := ⟨rfl, rfl, rfl⟩
theorem witness_StepRunsTheDecodedFrame : At (slot 2 ⟨0, 1, 0, 0, 0, 0, 0, 0⟩) .handshake 0 .s4 0 0 ∧
    (slot 2 ⟨0, 1, 0, 0, 0, 0, 0, 0⟩).inputs = [] ∧
    { slot 2 ⟨0, 1, 0, 0, 0, 0, 0, 0⟩ with inputs := [.tick] }.inputs = .tick :: [] ∧
    decodeFrame .default ((slot 2 ⟨0, 1, 0, 0, 0, 0, 0, 0⟩).dev 0).rx.dlc ((slot 2 ⟨0, 1, 0, 0, 0, 0, 0, 0⟩).dev 0).rx.d =
      .ok (.handshake ⟨2, 1, 0, 0, 0, 0, 0, 0⟩) := ⟨rfl, rfl, rfl, rfl⟩
theorem witness_CommandWhileBusyHasNoEffect : (host (at_ .handshake 0 .poll) 0x00000007).seq ≠ .ready ∧
    (host (at_ .handshake 0 .poll) 0x00000007).inputs = .command (words 0x00000007 0 0 0) :: [] := by decide
theorem witness_OnlyAnArrivalThatIsNoFrameStopsAStep :
    step { core with inputs := [.arrival ⟨1, 9, .zero⟩] } = .refused .arrivalNotAFrame ∧
    step { core with inputs := [.arrival ⟨256, 8, .zero⟩] } = .refused .arrivalNotAFrame ∧
    after { core with inputs := [.arrival ⟨255, 8, .zero⟩] } (fun _ => true) = true := ⟨rfl, rfl, rfl⟩
theorem witness_NoStepChangesTheConfiguration : step core = .next (core.begin []) := rfl

theorem witness_PidSettersWriteOneRegister : core.cascades.length = core.cfg.nDev ∧ (1 : Byte).toNat < core.cfg.nDev ∧
    (2, Loop.cur) ∈ loopRows := by decide
theorem witness_PidConfigureGainsAndClear : core.cascades.length = core.cfg.nDev ∧ (1 : Byte).toNat < core.cfg.nDev ∧
    (1, Loop.vel) ∈ loopRows := by decide
/-- The three tags of R126, and the difference the subtraction gives in each case. -/
theorem witness_PidSetLimitsTagsTheLimits : core.cascades.length = core.cfg.nDev ∧ (0 : Byte).toNat < core.cfg.nDev ∧
    (0, Loop.pos) ∈ loopRows ∧
    (Fsub core.cfg.num 0 0x3BA3D70A 0xBBA3D70A ∧ core.cfg.num.lt (core.cfg.num.abs 0xBBA3D70A) core.cfg.epsLimit = true) ∧
    (Fsub core.cfg.num 0 0x3C23D70A 0xBC23D70A ∧
      core.cfg.num.lt (core.cfg.num.abs 0xBC23D70A) core.cfg.epsLimit = false ∧ core.cfg.num.lt 0 0x3C23D70A = true) ∧
    (Fsub core.cfg.num 0x3C23D70A 0 0x3C23D70A ∧
      core.cfg.num.lt (core.cfg.num.abs 0x3C23D70A) core.cfg.epsLimit = false ∧ core.cfg.num.lt 0x3C23D70A 0 = false) := by
  refine ⟨by decide, by decide, by decide, ⟨Or.inl ?_, ?_⟩, ⟨Or.inl ?_, ?_, ?_⟩, ⟨Or.inl ?_, ?_, ?_⟩⟩ <;> decide +kernel
theorem witness_PidStepFollowsTheSixSteps : core.cascades.length = core.cfg.nDev ∧ (1 : Byte).toNat < core.cfg.nDev ∧
    (0, Loop.pos) ∈ loopRows := by decide
theorem witness_PidOutputReadsOut0 : (1 : Byte).toNat < core.cfg.nDev ∧ (2, Loop.cur) ∈ loopRows := by decide
theorem witness_CascadeIndexedCommandsRefuseBadOperands : core.cfg.nDev ≤ (2 : Byte).toNat ∧ (3 : BitVec 2) = 3 ∧
    1 < (2 : Byte).toNat ∧ 5 < (6 : Byte).toNat := by decide
/-- PID-1, step 2, and PID-8, step 2: gated at the upper and at the lower limit. -/
theorem witness_AntiWindupHoldsTheAccumulator :
    let high : PidState := { pid1 with err0 := 0x40000000, integralSum := 0x40000000, out1 := 0x40900000 }
    let low : PidState := { pid1 with setpoint := 0xC0800000, err0 := 0xC0800000, integralSum := 0xC0800000, out1 := 0xC1200000 }
    high.mode = .regular ∧ low.mode = .regular ∧ BeyondHigh .binary32 high high.out1 ∧
    F32.lt (pidStep .binary32 (fun _ => 0x7FC00000) high).err0 fZero = false ∧ ¬ BeyondHigh .binary32 low low.out1 ∧
    BeyondLow .binary32 low low.out1 ∧ F32.lt fZero (pidStep .binary32 (fun _ => 0x7FC00000) low).err0 = false := by
  refine ⟨rfl, rfl, Or.inr ⟨rfl, ?_⟩, ?_, ?_, Or.inr ⟨rfl, ?_⟩, ?_⟩
  · decide +kernel
  · decide +kernel
  · rintro (⟨h, -⟩ | ⟨-, h⟩)
    · exact absurd h (by decide)
    · exact absurd h (by decide +kernel)
  · decide +kernel
  · decide +kernel
theorem witness_ClearedLoopStepsToZero : F32.isFinite pid1.kp = true ∧ F32.isFinite pid1.ki = true ∧ F32.isFinite pid1.kd = true ∧
    (pid1.lim = .bounded → F32.lt pid1.max fZero = false ∧ F32.lt fZero pid1.min = false) := by decide +kernel

theorem witness_CasSetModeZeroesTheCascade : core.cascades.length = core.cfg.nDev ∧ (1 : Byte).toNat < core.cfg.nDev ∧
    ((0 : Byte).toNat, OpMode.currentMode) ∈ modeRows ∧ ((5 : Byte).toNat, OpMode.positionFFMode) ∈ modeRows := by decide
theorem witness_CasCalculateChainsTheLoops :
    (withCascade (cas1 .positionMode)).cascades.length = core.cfg.nDev ∧ (0 : Byte).toNat < core.cfg.nDev ∧
    OpMode.all.all (fun m => ((withCascade (cas1 m)).cascade 0).opmode = m) = true := by decide
theorem witness_CasSettersWriteTheOutermostLoop :
    (withCascade (cas1 .positionMode)).cascades.length = core.cfg.nDev ∧ (0 : Byte).toNat < core.cfg.nDev ∧
    OpMode.all.all (fun m => ((withCascade (cas1 m)).cascade 0).opmode = m) = true := by decide
theorem witness_CasSettersRefuseOtherModes : (0 : Byte).toNat < core.cfg.nDev ∧
    ((withCascade (cas1 .currentFFMode)).cascade 0).opmode ≠ .currentMode ∧
    ((withCascade (cas1 .currentMode)).cascade 0).opmode ≠ .positionFFMode := by decide

theorem value_of_toInt {a : F} {n : Int} (h : F32.toInt a = n) : F32.value a = (n : ℚ) / 2 ^ 149 := by rw [F32.value, h]

/-- The largest operand below 2^104. -/
theorem witness_Q24EncodeTruncatesAndWraps : core.cfg.num = .binary32 ∧ core.cfg.num.trunc? 0x3F800000 24 = some (2 ^ 24) ∧
    F32.isFinite 0x737FFFFF = true ∧ |F32.value 0x737FFFFF| < 2 ^ 104 := by
  refine ⟨rfl, by decide +kernel, by decide +kernel, ?_⟩
  rw [value_of_toInt (show F32.toInt 0x737FFFFF = 16777215 * 2 ^ 229 by decide +kernel)]
  norm_num
theorem witness_Q24DecodeIsExactForShortWords : core.cfg.num = .binary32 ∧ (0x80000000#32).toInt = -1 * 2 ^ 31 ∧ (-1 : Int).natAbs < 2 ^ 24 ∧
    (0x7FFFFF80#32).toInt = 16777215 * 2 ^ 7 ∧ (16777215 : Int).natAbs < 2 ^ 24 := by decide
theorem witness_Q24RoundTripLosesLessThanAUnit : (F32.isFinite 0xC3000000 = true ∧ -128 ≤ F32.value 0xC3000000) ∧
    F32.value 0xC3000000 < 128 ∧ F32.isFinite 0x42FFFFFF = true ∧ -128 ≤ F32.value 0x42FFFFFF ∧ F32.value 0x42FFFFFF < 128 := by
  rw [value_of_toInt (show F32.toInt 0xC3000000 = -(2 ^ 156) by decide +kernel),
    value_of_toInt (show F32.toInt 0x42FFFFFF = 16777215 * 2 ^ 132 by decide +kernel)]
  refine ⟨⟨by decide +kernel, ?_⟩, ?_, by decide +kernel, ?_, ?_⟩ <;> norm_num
theorem witness_CheckedValuesEncodeWithoutWrap : WithinPos .binary32 0xC2FE0000 ∧ WithinPos .binary32 0x42FFFFFF ∧
    WithinUnit .binary32 0xBF800000 ∧ WithinUnit .binary32 0x3F800000 := by
  refine ⟨⟨?_, ?_⟩, ⟨?_, ?_⟩, ⟨?_, ?_⟩, ⟨?_, ?_⟩⟩ <;> decide +kernel
/-- The literals of the rules are the binary32 words of the spec: 0.0, 1.0, -1.0, 2.0, -127.0, 128.0, 2^24 and 256.0. -/
theorem test_literals : [(0, 0x00000000), (1, 0x3F800000), (-1, 0xBF800000), (2, 0x40000000), (-127, 0xC2FE0000), (128, 0x43000000),
    (16777216, 0x4B800000), (256, 0x43800000)].all (fun r => Num.ofInt .binary32 r.1 == r.2) = true := by decide +kernel
theorem witness_T8EncodeTruncatesAndWraps : core.cfg.num = .binary32 ∧ core.cfg.num.trunc? 0xBF800000 8 = some (-256) ∧
    F32.isFinite 0x7B7FFFFF = true ∧ |F32.value 0x7B7FFFFF| < 2 ^ 120 := by
  refine ⟨rfl, by decide +kernel, by decide +kernel, ?_⟩
  rw [value_of_toInt (show F32.toInt 0x7B7FFFFF = 16777215 * 2 ^ 245 by decide +kernel)]
  norm_num

theorem witness_RegFindAnswersTheIndex : core.cfg.wf = true ∧ core.devId 0 = 1 ∧ core.devId 1 = 2 ∧
    (∀ k, k < core.cfg.nDev → core.devId k ≠ (0 : Byte).toNat) := by decide
theorem witness_RegReadAnswersTheField : 31 < (32 : Byte).toNat ∧ (31 : Byte).toNat ≤ 31 ∧ core.find 9 = none ∧
    core.find 2 = some 1 := by decide

/-- Every protocol call passes its checks somewhere, at the ends of its operands' ranges. -/
theorem witness_ProtocolCallsStartTheirExchange : core.busFreeAnswer = true ∧
    Starts core (.actHandshake 1) .handshake 0 ∧ Starts core (.actGet 2 0) (.get .getCurrent) 1 ∧
    Starts core (.actGet 2 19) (.get .getShutdownState) 1 ∧ Starts core (.actSetCurrent 1 0x3F800000) (.setCurrent 0x3F800000) 0 ∧
    Starts core (.actSetSpeed 1 0xBF800000) (.setSpeed 0xBF800000) 0 ∧
    Starts core (.actSetPosition 1 0xC2FE0000) (.setPosition 0xC2FE0000) 0 ∧ Starts core (.actSetMode 1 255) (.setMode 255) 0 ∧
    Starts core (.actSetPower 1 255) (.setPower 255) 0 ∧ Starts core (.actSetLimit 1 0 0) (.setLimit .setCurOutUpper 0) 0 ∧
    Starts core (.actSetLimit 1 5 0) (.setLimit .setPosOutLower 0) 0 ∧
    Starts core (.actSend 1 1 0 0) (.send 1 (.ofWords 0 0)) 0 ∧ Starts core (.actSend 1 8 0 0) (.send 8 (.ofWords 0 0)) 0 ∧
    Starts core (.driveCycle 1) .driveCycle 1 :=
  ⟨rfl, ⟨rfl, rfl⟩, ⟨rfl, _, by decide, rfl⟩, ⟨rfl, _, by decide, rfl⟩, ⟨rfl, ⟨by decide +kernel, by decide +kernel⟩, rfl⟩,
    ⟨rfl, ⟨by decide +kernel, by decide +kernel⟩, rfl⟩, ⟨rfl, ⟨by decide +kernel, by decide +kernel⟩, rfl⟩, ⟨rfl, rfl⟩, ⟨rfl, rfl⟩,
    ⟨rfl, _, by decide, rfl⟩, ⟨rfl, _, by decide, rfl⟩, ⟨rfl, by decide, by decide, rfl⟩, ⟨rfl, by decide, by decide, rfl⟩, rfl,
    by decide, rfl⟩
/-- `S1` of the second exchange of `act.set_mode` and of the fourth of `drive_cycle`, the bus free. -/
theorem witness_ProtocolCallsStartTheirExchange_later : At (at_ (.setMode 3) 1 .s1) (.setMode 3) 1 .s1 0 0 ∧
    At (at_ .driveCycle 3 .s1) .driveCycle 3 .s1 0 0 ∧ ExecutorMoves (at_ (.setMode 3) 1 .s1) [] ∧
    ((at_ (.setMode 3) 1 .s1).begin []).busFreeAnswer = true := ⟨rfl, rfl, Or.inr ⟨rfl, rfl⟩, rfl⟩

/-- The same with the bus busy. -/
def busy : State := { core with busFree := [false] }
theorem witness_BusyBusEndsTheCall : busy.busFreeAnswer = false ∧ Starts busy (.actHandshake 1) .handshake 0 ∧
    Starts busy (.driveCycle 1) .driveCycle 1 := ⟨rfl, ⟨rfl, rfl⟩, rfl, by decide, rfl⟩
theorem witness_BusyBusEndsTheCall_later : let s : State := { busy with seq := .busy .driveCycle 3 .s1 0 0, inputs := [.tick, .reset] }
    At s .driveCycle 3 .s1 0 0 ∧ ExecutorMoves s [.reset] ∧ (s.begin [.reset]).busFreeAnswer = false := ⟨rfl, Or.inl rfl, rfl⟩
theorem witness_ChecksComeInOrderBeforeTheBus : 19 < (20 : Byte).toNat ∧ 5 < (6 : Byte).toNat ∧
    ((0 : Byte).toNat = 0 ∨ 8 < (0 : Byte).toNat) ∧ ((9 : Byte).toNat = 0 ∨ 8 < (9 : Byte).toNat) ∧
    core.find (9 : Byte).toNat = none ∧ (19 : Byte).toNat ≤ 19 ∧ (5 : Byte).toNat ≤ 5 ∧
    (1 ≤ (8 : Byte).toNat ∧ (8 : Byte).toNat ≤ 8) ∧ core.find (1 : Byte).toNat = some 0 ∧
    ¬ WithinUnit core.cfg.num 0x7FC00000 ∧ ¬ WithinUnit core.cfg.num 0x3F800001 ∧ ¬ WithinPos core.cfg.num 0x43000000 :=
  ⟨by decide, by decide, by decide, by decide, by decide, by decide, by decide, by decide, by decide,
    fun h => absurd h.1 (by decide +kernel), fun h => absurd h.2 (by decide +kernel), fun h => absurd h.2 (by decide +kernel)⟩
theorem witness_ClearStepClearsAckAndFresh : At (exchange .handshake 0 .s2 0 .acked .success true) .handshake 0 .s2 0 0 ∧
    ExecutorMoves (exchange .handshake 0 .s2 0 .acked .success true) [] ∧
    ExecutorMoves { exchange .handshake 0 .s2 0 .acked .success true with inputs := [.tick, .reset] } [.reset] ∧
    0 < (exchange .handshake 0 .s2 0 .acked .success true).devs.length := ⟨rfl, Or.inr ⟨rfl, rfl⟩, Or.inl rfl, by decide⟩
/-- The two answers of the bus and the form with an answer that is drawn; the fourth exchange of `drive_cycle`. -/
theorem witness_TransmitStepHandsOverOneFrame : At (exchange (.setSpeed 0) 0 .s3 0 .idle .clear) (.setSpeed 0) 0 .s3 0 0 ∧
    At (exchange .driveCycle 3 .s3 0 .acked .clear) .driveCycle 3 .s3 0 0 ∧
    ExecutorMoves (exchange .driveCycle 3 .s3 0 .acked .clear) [] ∧ 0 < (exchange .driveCycle 3 .s3 0 .acked .clear).devs.length ∧
    ((exchange .driveCycle 3 .s3 0 .acked .clear).begin []).busTxAnswer = true ∧
    ({ exchange .handshake 0 .s3 0 .acked .clear with busTx := [false] }.begin []).busTxAnswer = false ∧
    ({ exchange .handshake 0 .s3 0 .acked .clear with busTx := [] }.begin []).busTxAnswer = Config.busTxDraw 1 :=
  ⟨rfl, rfl, Or.inr ⟨rfl, rfl⟩, by decide, rfl, rfl, rfl⟩
theorem witness_CallsBuildTheFramesOfR92 : (core.loop 0 .cur).out0 = 0 := rfl
theorem witness_PollTestsTheFlagBeforeTheCount :
    At (exchange .handshake 0 .poll 3 .awaitingAck .clear true) .handshake 0 .poll 0 3 ∧
    ExecutorMoves (exchange .handshake 0 .poll 3 .awaitingAck .clear true) [] ∧
    ((exchange .handshake 0 .poll 3 .awaitingAck .clear true).dev 0).fresh = true ∧
    ((exchange .handshake 0 .poll 2 .awaitingAck .clear).dev 0).fresh = false ∧ 2 + 1 < Cfg.default.timeoutIters ∧
    Cfg.default.timeoutIters ≤ 3 + 1 := ⟨rfl, Or.inr ⟨rfl, rfl⟩, rfl, rfl, by decide, by decide⟩
theorem witness_SettleStepKeepsTheBooks : At (exchange .handshake 0 .s5 1 .awaitingAck .fail) .handshake 0 .s5 0 1 ∧
    ExecutorMoves (exchange .handshake 0 .s5 1 .awaitingAck .fail) [] ∧ Call.exchanges .handshake = 1 ∧
    0 < (exchange .handshake 0 .s5 1 .awaitingAck .fail).devs.length ∧
    ((exchange .handshake 0 .s5 1 .awaitingAck .fail).dev 0).ack = .fail ∧
    ((exchange .handshake 0 .s5 1 .awaitingAck .success).dev 0).ack = .success ∧
    ((exchange .handshake 0 .s5 1 .awaitingAck .clear).dev 0).ack = .clear :=
  ⟨rfl, Or.inr ⟨rfl, rfl⟩, rfl, by decide, rfl, rfl, rfl⟩
theorem witness_ExhaustedStepKeepsTheBooks : At (exchange .handshake 0 .s5a 4 .awaitingAck .clear) .handshake 0 .s5a 0 4 ∧
    ExecutorMoves (exchange .handshake 0 .s5a 4 .awaitingAck .clear) [] ∧
    0 < (exchange .handshake 0 .s5a 4 .awaitingAck .clear).devs.length := ⟨rfl, Or.inr ⟨rfl, rfl⟩, by decide⟩
/-- R40, R177: the third failure takes the device Offline, and the counter saturates at 255. -/
theorem test_failure_counts : [(1, 2, Live.online), (2, 3, .offline), (255, 255, .offline)].all (fun r =>
    after ((exchange .handshake 0 .s5a 4 .awaitingAck .clear).modDev 0
        (fun a => { a with live := .online, failCnt := r.1 }))
      (fun t => t.hostResponse == some (0x05, 0) && (t.dev 0).failCnt == r.2.1 && (t.dev 0).live == r.2.2 &&
        (t.dev 0).phase == .timedOut)) = true := by decide
theorem witness_ReadBackIsCompared : let s := exchange (.setMode 0) 1 .s5 1 .awaitingAck .success
    let u := exchange (.setPower 1) 0 .s5 1 .awaitingAck .success
    ExecutorMoves s [] ∧ 0 < s.devs.length ∧ (s.dev 0).ack = .success ∧ (s.dev 0).runMode = 0 ∧ (u.dev 0).power ≠ 1 ∧
    At s (.setMode 0) 1 .s5 0 1 ∧ At u (.setPower 1) 0 .s5 0 1 := ⟨Or.inr ⟨rfl, rfl⟩, by decide, rfl, rfl, by decide, rfl, rfl⟩
theorem witness_DriveCycleStepsTheCascade : (exchange .driveCycle 1 .s5 1 .awaitingAck .success).Inv ∧
    (exchange .driveCycle 2 .s5 1 .awaitingAck .success).Inv ∧ (exchange .driveCycle 3 .s5 1 .awaitingAck .success).Inv ∧
    ∀ x, ExecutorMoves (exchange .driveCycle x .s5 1 .awaitingAck .success) [] ∧
      ((exchange .driveCycle x .s5 1 .awaitingAck .success).dev 0).ack = .success ∧
      At (exchange .driveCycle x .s5 1 .awaitingAck .success) .driveCycle x .s5 0 1 :=
  ⟨State.inv_of_check _ (by decide +kernel), State.inv_of_check _ (by decide +kernel), State.inv_of_check _ (by decide +kernel),
    fun _ => ⟨Or.inr ⟨rfl, rfl⟩, rfl, rfl⟩⟩
/-- Both outcomes of the range check of `drive_cycle` (vector DC: 1.25 is out of range). -/
theorem test_driveCycle_range : after (exchange .driveCycle 2 .s5 1 .awaitingAck .success)
      (fun t => inUnit t.cfg.num (t.loop 0 .cur).out0 && t.seq == .busy .driveCycle 3 .s1 0 0) = true ∧
    after ((exchange .driveCycle 2 .s5 1 .awaitingAck .success).modCascade 0 (fun _ =>
        { cas1 .positionMode with pos := { (cas1 .positionMode).pos with setpoint := 0x41200000 } }))
      (fun t => t.rsp == some ⟨.outOfRange, 0⟩ && (t.loop 0 .pos).err0 == 0x41200000) = true := by decide +kernel
/-- The widest identifier of 8 bits and the first one wider; a known and an unknown one. -/
theorem witness_ArrivalWritesOnlySlotAndFresh : core.devs.length = core.cfg.nDev ∧ core.find 2 = some 1 ∧ core.find 255 = none ∧
    (8 : BitVec 4).toNat ≤ 8 ∧ 8 < (9 : BitVec 4).toNat ∧ 255 < 2 ^ core.cfg.idW ∧ 2 ^ core.cfg.idW ≤ 256 ∧
    { core with inputs := [.arrival ⟨2, 8, .zero⟩] }.inputs = .arrival ⟨2, 8, .zero⟩ :: [] := by decide
theorem witness_StatusAnswersSetAck : At (at_ .handshake 0 .s4) .handshake 0 .s4 0 0 ∧ 0 < (at_ .handshake 0 .s4).devs.length ∧
    (1 : Byte) = (at_ .handshake 0 .s4).cfg.statusOk ∧ (0 : Byte) ≠ (at_ .handshake 0 .s4).cfg.statusOk :=
  ⟨rfl, by decide, rfl, by decide⟩
theorem witness_Q24AnswersWriteTheirField : At (at_ .handshake 0 .s4) .handshake 0 .s4 0 0 ∧
    0 < (at_ .handshake 0 .s4).devs.length ∧ (Answer.mk 5 0 0 0 0 0 0 0).dlc = 5 ∧ (Answer.mk 4 0 0 0 0 0 0 0).dlc ≠ 5 ∧
    (Answer.mk 6 0 0 0 0 0 0 0).dlc ≠ 5 := ⟨rfl, by decide, rfl, by decide, by decide⟩
theorem witness_T8AndByteAnswersWriteTheirField : At (at_ .handshake 0 .s4) .handshake 0 .s4 0 0 ∧
    0 < (at_ .handshake 0 .s4).devs.length := ⟨rfl, by decide⟩
theorem witness_UnknownOpcodeWritesNothing : At (slot 2 ⟨0x7F, 1, 0, 0, 0, 0, 0, 0⟩) .handshake 0 .s4 0 0 ∧
    ExecutorMoves (slot 2 ⟨0x7F, 1, 0, 0, 0, 0, 0, 0⟩) [] ∧
    Cfg.default.kindOf ((slot 2 ⟨0x7F, 1, 0, 0, 0, 0, 0, 0⟩).dev 0).rx.d.d0 = none := ⟨rfl, Or.inr ⟨rfl, rfl⟩, rfl⟩

/-- `act.handshake #1`. -/
def handshake1 : BitVec 128 := words 0x00000140 0 0 0

/-- A command answered with one frame, seen by the last of four polls (PROTO-5). -/
def answered (w0 : Word) (a : Arrival) : State := { core with inputs := .command (words w0 0 0 0) ::
  (List.replicate (2 + 3) .tick ++ .arrival a :: .tick :: .tick :: .tick :: []) }
theorem witness_AnsweredCallEndsInSuccess : let a : Arrival := ⟨1, 2, ⟨0, 1, 0, 0, 0, 0, 0, 0⟩⟩
    let s := answered 0x00000140 a
    s.Inv ∧ s.seq = .ready ∧ decodeHost handshake1 = .ok (.actHandshake 1) ∧
    Starts s (.actHandshake 1) .handshake 0 ∧ Call.exchanges .handshake = 1 ∧ s.busFree = true :: [] ∧
    s.busTx = true :: [] ∧ 3 < s.cfg.timeoutIters ∧ a.id = s.devId 0 ∧ a.dlc.toNat ≤ 8 ∧ Acknowledges s.cfg .handshake a :=
  ⟨State.inv_of_check _ (by decide +kernel), rfl, rfl, ⟨rfl, rfl⟩, rfl, rfl, rfl, by decide, rfl, by decide, rfl,
    fun _ => rfl, fun h => absurd h (by decide)⟩
/-- `act.get` answered by its own frame: a Q24 value, a temperature and a byte. -/
theorem witness_AnsweredCallEndsInSuccess_get :
    Starts (answered 0x02000141 ⟨1, 5, ⟨3, 0x0A, 0x80, 0, 0, 0, 0, 0⟩⟩) (.actGet 1 2) (.get .getPosition) 0 ∧
    Call.exchanges (.get .getPosition) = 1 ∧ Acknowledges .default .getPosition ⟨1, 5, ⟨3, 0x0A, 0x80, 0, 0, 0, 0, 0⟩⟩ ∧
    Acknowledges .default .getMotorTemp ⟨1, 3, ⟨0x20, 0x19, 0x80, 0, 0, 0, 0, 0⟩⟩ ∧
    Acknowledges .default .getMode ⟨1, 2, ⟨0x07, 5, 0, 0, 0, 0, 0, 0⟩⟩ :=
  ⟨⟨rfl, _, by decide, rfl⟩, rfl, ⟨rfl, fun h => absurd h (by decide), fun _ => rfl⟩,
    ⟨rfl, fun h => absurd h (by decide), fun h => absurd h (by decide)⟩,
    ⟨rfl, fun h => absurd h (by decide), fun h => absurd h (by decide)⟩⟩

/-- Nobody answers (PROTO-4). -/
def lonely : State := { core with inputs := unanswered core handshake1 ++ [] }
theorem witness_UnansweredCallEndsInTimeout : lonely.Inv ∧ lonely.seq = .ready ∧ decodeHost handshake1 = .ok (.actHandshake 1) ∧
    Starts lonely (.actHandshake 1) .handshake 0 ∧ lonely.busFree = true :: [] ∧ lonely.busTx = true :: [] ∧
    lonely.inputs = unanswered lonely handshake1 ++ [] :=
  ⟨State.inv_of_check _ (by decide +kernel), rfl, rfl, ⟨rfl, rfl⟩, rfl, rfl, rfl⟩

/-- An Online device that does not answer three times (vector LIVE). -/
def fading : State :=
  { core.modDev 0 (fun r => { r with live := .online }) with
    busFree := [true, true, true], busTx := [true, true, true]
    inputs := unanswered core handshake1 ++ (unanswered core handshake1 ++ (unanswered core handshake1 ++ [])) }
theorem witness_ThreeTimeoutsTakeADeviceOffline : fading.Inv ∧ fading.seq = .ready ∧ fading.cfg.offlineThreshold = 3 ∧
    decodeHost handshake1 = .ok (.actHandshake 1) ∧ fading.find 1 = some 0 ∧ fading.busFree = true :: true :: true :: [] ∧
    fading.busTx = true :: true :: true :: [] ∧
    fading.inputs = unanswered fading handshake1 ++ (unanswered fading handshake1 ++ (unanswered fading handshake1 ++ [])) ∧
    (fading.dev 0).live = .online ∧ (fading.dev 0).failCnt = 0 :=
  ⟨State.inv_of_check _ (by decide +kernel), rfl, rfl, rfl, rfl, rfl, rfl, rfl, rfl, rfl⟩
/-- A command in progress with an arrival, a second command and a pause still to come. -/
theorem witness_EveryCommandEnds : let s : State := { exchange .driveCycle 0 .s2 0 .acked .success with
      inputs := [.arrival ⟨255, 8, .zero⟩, .tick, .command handshake1] }
    s.Inv ∧ s.seq ≠ .ready ∧ (Arrival.mk 255 8 .zero).dlc.toNat ≤ 8 ∧ (Arrival.mk 255 8 .zero).id < 2 ^ s.cfg.idW :=
  ⟨State.inv_of_check _ (by decide +kernel), by decide, by decide, by decide⟩

theorem witness_ResetMeetsTheInvariant : Cfg.default.wf = true := by decide
theorem witness_EveryStepKeepsTheInvariant : (exchange .handshake 0 .poll 3 .awaitingAck .clear).Inv ∧
    after (exchange .handshake 0 .poll 3 .awaitingAck .clear) (fun t => t.seq == .busy .handshake 0 .s5a 0 4) = true :=
  ⟨State.inv_of_check _ (by decide +kernel), by decide⟩
/-- The step that makes device 0 the one waited on, and the step that ends its wait. -/
theorem witness_AtMostOneRequestIsOutstanding : (exchange .handshake 0 .s3 0 .idle .clear).Inv ∧
    (exchange .handshake 0 .s5a 4 .awaitingAck .clear).Inv ∧ 0 < core.cfg.nDev ∧ 1 < core.cfg.nDev ∧
    after (exchange .handshake 0 .s3 0 .idle .clear) (fun t => (t.dev 0).phase == .awaitingAck && (t.dev 1).phase == .idle) = true ∧
    after (exchange .handshake 0 .s5a 4 .awaitingAck .clear) (fun t => t.seq == .ready && (t.dev 0).phase == .timedOut) = true :=
  ⟨State.inv_of_check _ (by decide +kernel), State.inv_of_check _ (by decide +kernel), by decide, by decide, by decide, by decide⟩
theorem witness_OnlyASuccessfulExchangeBringsADeviceOnline : (exchange .handshake 0 .s5 1 .awaitingAck .success).Inv ∧
    0 < core.cfg.nDev ∧ ((exchange .handshake 0 .s5 1 .awaitingAck .success).dev 0).live = .offline ∧
    after (exchange .handshake 0 .s5 1 .awaitingAck .success) (fun t => (t.dev 0).live == .online) = true :=
  ⟨State.inv_of_check _ (by decide +kernel), by decide, rfl, by decide⟩
/-- The three ways `fresh` changes: an arrival, `S2`, and reset. -/
theorem witness_FreshIsSetByArrivalsAndClearedByS2 : core.Inv ∧ (exchange .handshake 0 .s2 0 .acked .success true).Inv ∧
    after { core with inputs := [.arrival ⟨1, 0, .zero⟩] } (fun t => (t.dev 0).fresh) = true ∧
    after (exchange .handshake 0 .s2 0 .acked .success true) (fun t => !(t.dev 0).fresh) = true ∧
    after { exchange .handshake 0 .s2 0 .acked .success true with inputs := [.reset] } (fun t => !(t.dev 0).fresh) = true :=
  ⟨core_inv, State.inv_of_check _ (by decide +kernel), by decide, by decide, by decide⟩
/-- The steps that write a cascade (a command, the third settle step of `drive_cycle`, reset) or a record (an arrival, `S2`). -/
theorem witness_OnlyTheseStepsWriteCascadesAndRecords :
    after (host core 0x00000002 1) (fun t => t.cascades != core.cascades && t.devs == core.devs) = true ∧
    after ((exchange .driveCycle 2 .s5 1 .awaitingAck .success).modDev 0 (fun r => { r with position := 0x3F800000 }))
      (fun t => t.cascades != core.cascades) = true ∧
    after { (withLoop pid1) with inputs := [.reset] } (fun t => t.cascades != (withLoop pid1).cascades) = true ∧
    after { core with inputs := [.arrival ⟨1, 0, .zero⟩] } (fun t => t.cascades == core.cascades && t.devs != core.devs) = true ∧
    after (exchange .handshake 0 .s2 0 .acked .success true) (fun t => t.devs != core.devs) = true := by decide +kernel
theorem witness_TransmittedFramesAreWellFormed : (exchange .handshake 0 .s3 0 .acked .clear).Inv ∧
    after (exchange .handshake 0 .s3 0 .acked .clear) (fun t => t.history == [.busTx ⟨1, [0x00]⟩ true]) = true :=
  ⟨State.inv_of_check _ (by decide +kernel), by decide⟩

end Sys2Proof.Tests
end

section
/-! PROOFS. What an instruction and a step can answer, each said once, and the statements of the family 00_scope.md. -/

namespace Sys2Proof.Machine

/-! ### What an instruction can answer -/

/-- The four shapes that the meaning of an instruction has: a command ends with no register written, or writes one cascade and
ends, or makes `S1` of its first exchange (R67), or an answer is decoded into the record waited on (R178). -/
inductive ExecShape (s : State) : Out → Prop
  | ends (r : Result) (v : Word) : ExecShape s (.next (s.respond r v))
  | writes (c : Nat) (f : Cascade → Cascade) (v : Word) : ExecShape s (succeed v (s.modCascade c f))
  | starts (call : Call) (k : Nat) : ExecShape s (start call k s)
  | decodes (f : ActuatorRecord → ActuatorRecord) : ExecShape s (decodeInto f s)

namespace ExecShape

theorem onLoop {dev : Byte} {loop : BitVec 2} {s : State} {act : Loop → Out} (h : ∀ l, ExecShape s (act l)) :
    ExecShape s (onLoop dev loop s act) := by
  obtain ⟨l, -, -, he⟩ | ⟨-, he⟩ := onLoop_cases dev loop s act <;> rw [he]
  · exact h l
  · exact .ends .illegalCommand 0

theorem onCascade {dev : Byte} {s : State} {act : Out} (h : ExecShape s act) : ExecShape s (onCascade dev s act) := by
  obtain ⟨-, he⟩ | ⟨-, he⟩ := onCascade_cases dev s act <;> rw [he]
  · exact h
  · exact .ends .illegalCommand 0

theorem onDevice {dev : Byte} {s : State} {act : Nat → Out} (h : ∀ k, ExecShape s (act k)) :
    ExecShape s (onDevice dev s act) := by
  obtain ⟨k, -, he⟩ | ⟨-, he⟩ := onDevice_cases dev s act <;> rw [he]
  · exact h k
  · exact .ends .deviceNotFound 0

theorem onLoop_write (dev : Byte) (loop : BitVec 2) (s : State) (f : PidState → PidState) :
    ExecShape s (Machine.onLoop dev loop s (fun l => succeed 0 (s.modLoop dev.toNat l f))) :=
  onLoop fun _ => .writes ..

theorem onDevice_start (dev : Byte) (s : State) (call : Call) :
    ExecShape s (Machine.onDevice dev s (fun k => start call k s)) :=
  onDevice fun k => .starts call k

theorem setOutermost (dev : Byte) (mode : OpMode) (l : Loop) (f : PidState → PidState) (s : State) :
    ExecShape s (setOutermost dev mode l f s) := by
  refine onCascade ?_
  split
  · exact .writes ..
  · exact .ends .modeMismatch 0

theorem setChecked (dev : Byte) (ok : Bool) (call : Call) (s : State) : ExecShape s (setChecked dev ok call s) := by
  refine onDevice fun k => ?_
  split
  · exact .starts call k
  · exact .ends .outOfRange 0

end ExecShape

/-- What the meaning of any instruction can answer: no arm of `exec` has another shape. -/
theorem exec_shape (i : Instr) (s : State) : ExecShape s (exec i s) := by
  cases i with
  | pidConfigure =>
    simp only [exec, execPidConfigure]
    split
    · exact .ends .illegalCommand 0
    · exact .onLoop_write ..
  | pidSetSetpoint | pidSetFeedback | pidSetFeedforward | pidSetGains | pidSetLimits | pidStep | pidClear =>
    exact .onLoop_write ..
  | pidOutput => exact .onLoop fun _ => .ends .success _
  | casSetMode =>
    simp only [exec, execCasSetMode]
    split
    · exact .ends .illegalCommand 0
    · exact .onCascade (.writes ..)
  | casCalculate => exact .onCascade (.writes ..)
  | casSetCurrent | casSetVelocity | casSetPosition | casSetCurrentFf | casSetVelocityFf | casSetPositionFf =>
    exact .setOutermost ..
  | q24Encode | q24Decode | t8Encode | t8Decode => exact .ends .success _
  | regFind => exact .onDevice fun _ => .ends .success _
  | regRead =>
    simp only [exec, execRegRead]
    split
    · exact .ends .illegalCommand 0
    · exact .onDevice fun _ => .ends .success _
  | actHandshake | actSetMode | actSetPower => exact .onDevice_start ..
  | actGet | actSetLimit | actSend =>
    simp only [exec, execActGet, execActSetLimit, execActSend]
    split
    · exact .ends .illegalCommand 0
    · exact .onDevice_start ..
  | actSetCurrent | actSetSpeed | actSetPosition => exact .setChecked ..
  | driveCycle => exact .onCascade (.starts ..)
  | _ => exact .decodes _ -- the frame kinds

/-! ### What the host's and the executor's steps can do -/

/-- What presenting a command can do (R85, R87, R244). -/
theorem acceptCommand_cases (cmd : BitVec 128) (s : State) :
    (s.seq ≠ .ready ∧ acceptCommand cmd s = .next s) ∨
    (s.seq = .ready ∧ ∃ i, decodeHost cmd = .ok i ∧ acceptCommand cmd s = exec i (s.record (.command cmd))) ∨
    (s.seq = .ready ∧ (∃ e, decodeHost cmd = .error e) ∧ acceptCommand cmd s = illegal (s.record (.command cmd))) := by
  unfold acceptCommand
  cases s.seq with
  | busy call x p k n => exact .inl ⟨nofun, rfl⟩
  | ready =>
    cases decodeHost cmd with
    | ok i => exact .inr (.inl ⟨rfl, i, rfl, rfl⟩)
    | error e => exact .inr (.inr ⟨rfl, ⟨e, rfl⟩, rfl⟩)

/-- What `S4` can do: the frame's meaning runs, if it has one, and `S5` is next (R172, R178, R185). -/
theorem decodeStep_cases {call : Call} {x k n : Nat} {s t : State} (h : decodeStep call x k n s = .next t) :
    (∃ e, decodeFrame s.cfg (s.dev k).rx.dlc (s.dev k).rx.d = .error e ∧ t = s.goTo call x .s5 k n) ∨
    (∃ i u, decodeFrame s.cfg (s.dev k).rx.dlc (s.dev k).rx.d = .ok i ∧ exec i s = .next u ∧ t = u.goTo call x .s5 k n) := by
  unfold decodeStep at h
  cases hd : decodeFrame s.cfg (s.dev k).rx.dlc (s.dev k).rx.d with
  | error e =>
    rw [hd] at h
    cases h
    exact .inl ⟨e, rfl, rfl⟩
  | ok i =>
    rw [hd] at h
    cases he : exec i s with
    | next u =>
      simp only [he] at h
      cases h
      exact .inr ⟨i, u, rfl, he, rfl⟩
    | fault r => simp only [he] at h; cases h
    | refused r => simp only [he] at h; cases h

/-! ### The configuration (R9): what each step leaves of it -/

@[simp] theorem sampleBus_cfg (call : Call) (x k : Nat) (s : State) : (sampleBus call x k s).cfg = s.cfg := by
  obtain ⟨-, he⟩ | ⟨-, he⟩ := sampleBus_cases call x k s <;> simp [he]

@[simp] theorem clearStep_cfg (call : Call) (x k : Nat) (s : State) : (clearStep call x k s).cfg = s.cfg := rfl

@[simp] theorem transmitStep_cfg (call : Call) (x k : Nat) (s : State) : (transmitStep call x k s).cfg = s.cfg := by
  unfold transmitStep
  dsimp only
  split <;> simp

@[simp] theorem pollStep_cfg (call : Call) (x k n : Nat) (s : State) : (pollStep call x k n s).cfg = s.cfg := by
  obtain ⟨-, he⟩ | ⟨-, -, he⟩ | ⟨-, -, he⟩ := pollStep_cases call x k n s <;> simp [he]

@[simp] theorem settleStep_cfg (call : Call) (x k : Nat) (s : State) : (settleStep call x k s).cfg = s.cfg :=
  (settleStep_frame call x k s).2

@[simp] theorem exhaustedStep_cfg (k : Nat) (s : State) : (exhaustedStep k s).cfg = s.cfg := rfl

/-- No shape of a meaning writes a parameter. -/
theorem ExecShape.cfg {s t : State} {o : Out} (h : ExecShape s o) (ho : o = .next t) : t.cfg = s.cfg := by
  cases h with
  | ends r v => cases ho; simp
  | writes c f v => cases ho; simp
  | starts call k => cases ho; simp
  | decodes f =>
    obtain ⟨k, -, he⟩ | ⟨-, he⟩ := decodeInto_cases f s <;> cases he.symm.trans ho
    · simp
    · rfl

theorem exec_cfg {i : Instr} {s t : State} (h : exec i s = .next t) : t.cfg = s.cfg := (exec_shape i s).cfg h

theorem decodeStep_cfg {call : Call} {x k n : Nat} {s t : State} (h : decodeStep call x k n s = .next t) : t.cfg = s.cfg := by
  obtain ⟨e, -, rfl⟩ | ⟨i, u, -, he, rfl⟩ := decodeStep_cases h
  · simp
  · simpa using exec_cfg he

theorem executorStep_cfg {s t : State} (h : executorStep s = .next t) : t.cfg = s.cfg := by
  cases hq : s.seq with
  | ready =>
    simp only [executorStep, hq] at h
    cases h
    rfl
  | busy call x p k n =>
    cases p with
    | s4 =>
      simp only [executorStep, hq] at h
      exact decodeStep_cfg h
    | _ =>
      simp only [executorStep, hq] at h
      cases h
      simp

theorem acceptCommand_cfg {cmd : BitVec 128} {s t : State} (h : acceptCommand cmd s = .next t) : t.cfg = s.cfg := by
  obtain ⟨-, he⟩ | ⟨-, i, -, he⟩ | ⟨-, -, he⟩ := acceptCommand_cases cmd s <;> rw [he] at h
  · cases h
    rfl
  · simpa using exec_cfg h
  · cases h
    simp

theorem notify_cfg {a : Arrival} {s t : State} (h : notify a s = .next t) : t.cfg = s.cfg := by
  obtain ⟨-, he⟩ | ⟨-, -, he⟩ | ⟨-, k, -, he⟩ := notify_cases a s <;> rw [he] at h <;> cases h
  · simp
  · simp

/-- Settles O12, by the agent that moves: the executor, the host, the notifier or reset (R66). -/
theorem noStepChangesTheConfiguration : Obligations.NoStepChangesTheConfiguration := by
  intro s t h
  cases hi : s.inputs with
  | nil =>
    simp only [step, hi] at h
    simpa using executorStep_cfg h
  | cons input rest =>
    cases input <;> simp only [step, hi] at h
    case tick => simpa using executorStep_cfg h
    case command cmd => simpa using acceptCommand_cfg h
    case arrival a => simpa using notify_cfg h
    case reset =>
      cases h
      simp

end Sys2Proof.Machine
end

section
/-! PROOFS. The reset values, the end of a command and `cas.set_mode`: statements of the family 10_state.md about one state or one
instruction. -/

namespace Sys2Proof.Machine

open Sys2Proof.Spec

/-! ### Reset (R53, R54) -/

@[simp] theorem resetWith_cascade (g : Cfg) (c : Nat) : (State.resetWith g).cascade c = .reset := by
  simp only [State.cascade, State.resetWith, List.getD_eq_getElem?_getD, List.getElem?_replicate]
  split <;> rfl

@[simp] theorem resetWith_loop (g : Cfg) (c : Nat) (l : Loop) : (State.resetWith g).loop c l = .reset := by
  rw [State.loop, resetWith_cascade]
  cases l <;> rfl

@[simp] theorem resetWith_dev (g : Cfg) (k : Nat) : (State.resetWith g).dev k = .reset g := by
  simp only [State.dev, State.resetWith, List.getD_eq_getElem?_getD, List.getElem?_replicate]
  split <;> rfl

@[simp] theorem applyReset_dev (s : State) (k : Nat) : s.applyReset.dev k = .reset s.cfg := resetWith_dev s.cfg k

/-- The limits of a cascade after reset count as never set (R53, R264). -/
theorem Cascade.reset_limitsTagged (g : Cfg) : Cascade.reset.limitsTagged g :=
  have h : PidState.reset.limitsTagged g := .inr ⟨rfl, rfl, rfl⟩
  ⟨h, h, h⟩

theorem resetWith_inv {g : Cfg} (hg : g.wf = true) : (State.resetWith g).Inv where
  cfg := hg
  nCascades := List.length_replicate
  nDevs := List.length_replicate
  limits := fun c hc => (List.eq_of_mem_replicate hc) ▸ Cascade.reset_limitsTagged g
  slots := fun r hr => (List.eq_of_mem_replicate hr) ▸ Nat.zero_le 8
  liveness := fun r hr => (List.eq_of_mem_replicate hr) ▸ nofun
  seq := trivial
  awaiting := fun k _ => by rw [resetWith_dev]; exact ⟨nofun, False.elim⟩
  cleared := fun k _ _ => by rw [resetWith_dev]; rfl
  settled := fun k _ _ => by rw [resetWith_dev]; rfl

/-- Settles O1: every loop reads as the PidState of reset. -/
theorem resetZeroesThePidFile : Obligations.ResetZeroesThePidFile := by
  intro g c l _
  rw [resetWith_loop]
  exact ⟨rfl, rfl, rfl, rfl, rfl, rfl, rfl, rfl, rfl, rfl, rfl, rfl, rfl, rfl, rfl, rfl⟩

/-- The fields 8 to 31 of a record after reset, the values and the slot, are zero (R54). -/
theorem fieldOf_reset (g : Cfg) {n : Nat} (hl : 8 ≤ n) (hu : n ≤ 31) : fieldOf 0 (.reset g) n = 0 := by
  have word : (0 : Byte) ++ (0 : Byte) ++ (0 : Byte) ++ (0 : Byte) = (0 : Word) := by decide
  obtain hv | rfl | rfl : n < 30 ∨ n = 30 ∨ n = 31 := by omega
  · interval_cases n <;> rfl
  · exact word
  · exact word

/-- Settles O2: every record and every operating mode read as those of reset. -/
theorem resetRestoresTheRegistry : Obligations.ResetRestoresTheRegistry := by
  refine fun g => ⟨rfl, fun k _ => ?_⟩
  rw [resetWith_cascade, resetWith_dev]
  exact ⟨rfl, rfl, rfl, rfl, rfl, rfl, rfl, rfl, rfl, rfl, rfl, fun n => fieldOf_reset g⟩

/-- Settles O54: the invariant of a reset state, whose configuration is well formed. -/
theorem resetMeetsTheInvariant : Obligations.ResetMeetsTheInvariant :=
  ⟨resetWith_inv (by decide), fun _ => resetWith_inv⟩

/-! ### The end of a command (R230, R241) -/

/-- The number at the response port is the one R230 lists for the result. -/
theorem Result.code_mem_resultRows (r : Result) : (r, r.code) ∈ resultRows := by cases r <;> decide

/-- What `respond` shows and enters in the history, for a value that is 0 where the result is no success (R85). -/
theorem respond_response (s : State) {r : Result} {v : Word} (hv : r ≠ .success → v = 0) :
    (s.respond r v).rsp = some ⟨r, v⟩ ∧ (s.respond r v).history = .result ⟨r, v⟩ :: s.history := by
  have hval : (if r = .success then v else 0) = v := by
    split
    · rfl
    · next h => exact (hv h).symm
  rw [respond_rsp, respond_history, hval]
  exact ⟨rfl, rfl⟩

/-- A command whose work `t` entered nothing in the history ends with a result and a value. -/
theorem ends_respond {s t : State} (hh : t.history = s.history) {r : Result} {v : Word} (hv : r ≠ .success → v = 0) :
    Ends s (t.respond r v) r v := by
  obtain ⟨hrsp, hhist⟩ := respond_response t hv
  refine ⟨rfl, ⟨hrsp, r.code, r.code_mem_resultRows, ?_⟩, by rw [hhist, hh]⟩
  rw [State.hostResponse, hrsp]
  rfl

theorem ends_success {s t : State} (hh : t.history = s.history) (v : Word) : Ends s (t.respond .success v) .success v :=
  ends_respond hh nofun

/-! ### `cas.set_mode` (R141) -/

theorem OpMode.ofImm_of_mem {b : Byte} {m : OpMode} (h : (b.toNat, m) ∈ modeRows) : OpMode.ofImm b = some m := by
  have rows : ∀ row ∈ modeRows, OpMode.all[row.1]? = some row.2 := by decide
  exact rows _ h

/-- Switching the mode leaves the loops with their buffers at zero (R120, R141). -/
theorem switchMode_eq (m : OpMode) (c : Cascade) :
    switchMode m c = ⟨m, Zeroed (c.loop .pos), Zeroed (c.loop .vel), Zeroed (c.loop .cur)⟩ := rfl

/-- A write to one cascade of the file, and the end of the command, leave the others and the records. -/
theorem onlyCascade_respond (s : State) {c : Nat} (f : Cascade → Cascade) (hc : c < s.cascades.length) (r : Result) (v : Word) :
    OnlyCascade s ((s.modCascade c f).respond r v) c (f (s.cascade c)) :=
  ⟨cascade_modCascade_same s c f hc, fun _ hne => cascade_modCascade_other s f hne, rfl⟩

/-- Settles O21: a listed mode is accepted, and the cascade takes what `switchMode` makes of it. -/
theorem casSetModeZeroesTheCascade : Obligations.CasSetModeZeroesTheCascade := by
  intro s dev imm8 m hlen hdev hm
  refine ⟨(s.modCascade dev.toNat (switchMode m)).respond .success 0, ?_, ?_, ends_success rfl 0, ⟨rfl, rfl, rfl, rfl, rfl⟩⟩
  · show execCasSetMode dev imm8 s = _
    simp only [execCasSetMode, OpMode.ofImm_of_mem hm, onCascade, if_pos hdev]
    rfl
  · exact onlyCascade_respond s (switchMode m) (hlen ▸ hdev) .success 0

end Sys2Proof.Machine
end

section
/-! PROOFS. The shape of a step, what each agent's step writes to the records, the cascades and the sequencer, and the statements
of the family 10_state.md about every step. -/

namespace Sys2Proof.Machine

open Sys2Proof.Spec

/-! ### Reading the records -/

theorem dev_congr {s t : State} (hd : t.devs = s.devs) (hc : t.cfg = s.cfg) (k : Nat) : t.dev k = s.dev k := by
  rw [State.dev, State.dev, hd, hc]

@[simp] theorem begin_dev (s : State) (rest : List Input) (k : Nat) : (s.begin rest).dev k = s.dev k := rfl

/-- A write to one record: every record is as before or is the one written. -/
theorem dev_modDev_cases (s : State) (k j : Nat) (f : ActuatorRecord → ActuatorRecord) :
    (s.modDev k f).dev j = s.dev j ∨ (j = k ∧ (s.modDev k f).dev j = f (s.dev k)) := by
  by_cases hj : j = k
  · subst hj
    by_cases hl : j < s.devs.length
    · exact .inr ⟨rfl, dev_modDev_same s j f hl⟩
    · exact .inl (by simp [State.dev, List.getD_eq_getElem?_getD, hl])
  · exact .inl (dev_modDev_other s f hj)

/-- A field that the write to a record keeps is as before in every record. -/
theorem dev_modDev_field {α : Type} (g : ActuatorRecord → α) {f : ActuatorRecord → ActuatorRecord} (hf : ∀ r, g (f r) = g r)
    (s : State) (k j : Nat) : g ((s.modDev k f).dev j) = g (s.dev j) := by
  obtain h | ⟨rfl, h⟩ := dev_modDev_cases s k j f <;> rw [h]
  exact hf _

/-! ### What decoding an answer writes (R178 to R184) -/

/-- A write to a record that keeps its flags but `ack`, its books and its slot. -/
def KeepsFlags (f : ActuatorRecord → ActuatorRecord) : Prop :=
  ∀ r, (f r).phase = r.phase ∧ (f r).fresh = r.fresh ∧ (f r).live = r.live ∧ (f r).failCnt = r.failCnt ∧ (f r).rx = r.rx

theorem KeepsFlags.id : KeepsFlags id := fun _ => ⟨rfl, rfl, rfl, rfl, rfl⟩

/-- The meaning of every frame kind is a decoding that keeps the flags; only the Q24 class checks the length (R92, R182). -/
theorem exec_ofAnswer (kind : FrameKind) (ans : Answer) (s : State) :
    ∃ f, exec (.ofAnswer ans kind) s = decodeInto f s ∧ KeepsFlags f := by
  cases kind with
  | getCurrent | getSpeed | getPosition | getCurOutUpper | getCurOutLower | getSpdOutUpper | getSpdOutLower
  | getPosOutUpper | getPosOutLower | getProfileSpeed | getProfileAccel | getProfileDecel | getTravelUpper
  | getTravelLower =>
    refine ⟨_, rfl, fun r => ?_⟩
    dsimp only
    split <;> exact ⟨rfl, rfl, rfl, rfl, rfl⟩
  | _ => exact ⟨_, rfl, fun _ => ⟨rfl, rfl, rfl, rfl, rfl⟩⟩

/-- A frame that decodes is an answer of the kind that `d[0]` names (R91, R178). -/
theorem decodeFrame_ok {c : Cfg} {dlc : BitVec 4} {d : Bytes8} {i : Instr} (h : decodeFrame c dlc d = .ok i) :
    ∃ kind, c.kindOf d.d0 = some kind ∧ (d.answer dlc).wf = true ∧ i = .ofAnswer (d.answer dlc) kind := by
  unfold decodeFrame at h
  cases hk : c.kindOf d.d0 with
  | none => simp only [hk] at h; cases h
  | some kind =>
    simp only [hk] at h
    split at h
    · next hw => cases h; exact ⟨kind, rfl, hw, rfl⟩
    · cases h

/-- `S4` writes the record waited on, keeping its flags, and goes on to `S5`; the frame that is no instruction writes nothing. -/
theorem decodeStep_writes {call : Call} {x k n : Nat} {s t : State} (hq : s.seq = .busy call x .s4 k n)
    (h : decodeStep call x k n s = .next t) : ∃ f, KeepsFlags f ∧ t = (s.modDev k f).goTo call x .s5 k n := by
  obtain ⟨e, -, rfl⟩ | ⟨i, u, hi, hu, rfl⟩ := decodeStep_cases h
  · exact ⟨id, .id, by rw [State.modDev, List.modify_id]⟩
  · obtain ⟨kind, -, -, rfl⟩ := decodeFrame_ok hi
    obtain ⟨f, he, hf⟩ := exec_ofAnswer kind ((s.dev k).rx.d.answer (s.dev k).rx.dlc) s
    have hdec : decodeInto f s = .next (s.modDev k f) := by simp only [decodeInto, State.decoding, hq]
    rw [he, hdec] at hu
    cases hu
    exact ⟨f, hf, rfl⟩

/-! ### The shape of a step -/

/-- What the executor's step can do, by the point it stands at (R67, R172). -/
inductive ExecutorShape (s : State) : State → Prop
  | idle (hq : s.seq = .ready) : ExecutorShape s s
  | sample {call x k n} (hq : s.seq = .busy call x .s1 k n) : ExecutorShape s (sampleBus call x k s)
  | clear {call x k n} (hq : s.seq = .busy call x .s2 k n) : ExecutorShape s (clearStep call x k s)
  | transmit {call x k n} (hq : s.seq = .busy call x .s3 k n) : ExecutorShape s (transmitStep call x k s)
  | poll {call x k n} (hq : s.seq = .busy call x .poll k n) : ExecutorShape s (pollStep call x k n s)
  | decode {call x k n f} (hq : s.seq = .busy call x .s4 k n) (hf : KeepsFlags f) :
    ExecutorShape s ((s.modDev k f).goTo call x .s5 k n)
  | settle {call x k n} (hq : s.seq = .busy call x .s5 k n) : ExecutorShape s (settleStep call x k s)
  | exhaust {call x k n} (hq : s.seq = .busy call x .s5a k n) : ExecutorShape s (exhaustedStep k s)

theorem executorStep_shape {s t : State} (h : executorStep s = .next t) : ExecutorShape s t := by
  cases hq : s.seq with
  | ready =>
    simp only [executorStep, hq] at h
    cases h
    exact .idle hq
  | busy call x p k n =>
    cases p <;> simp only [executorStep, hq] at h
    case s4 =>
      obtain ⟨f, hf, rfl⟩ := decodeStep_writes hq h
      exact .decode hq hf
    case s1 => cases h; exact .sample hq
    case s2 => cases h; exact .clear hq
    case s3 => cases h; exact .transmit hq
    case poll => cases h; exact .poll hq
    case s5 => cases h; exact .settle hq
    case s5a => cases h; exact .exhaust hq

/-- What a step can do, by the agent that moves: the executor, the host, the notifier or reset (R66 to R68). -/
inductive StepShape (s : State) : State → Prop
  | executor {rest t} (hi : ExecutorMoves s rest) (h : ExecutorShape (s.begin rest) t) : StepShape s t
  | command {cmd rest t} (hi : s.inputs = .command cmd :: rest) (h : acceptCommand cmd (s.begin rest) = .next t) : StepShape s t
  | arrival {a rest t} (hi : s.inputs = .arrival a :: rest) (h : notify a (s.begin rest) = .next t) : StepShape s t
  | reset {rest} (hi : s.inputs = .reset :: rest) : StepShape s (s.begin rest).applyReset

theorem step_shape {s t : State} (h : step s = .next t) : StepShape s t := by
  cases hi : s.inputs with
  | nil =>
    simp only [step, hi] at h
    exact .executor (.inr ⟨hi, rfl⟩) (executorStep_shape h)
  | cons input rest =>
    cases input <;> simp only [step, hi] at h
    case tick => exact .executor (.inl hi) (executorStep_shape h)
    case command cmd => exact .command hi h
    case arrival a => exact .arrival hi h
    case reset =>
      cases h
      exact .reset hi

/-! ### What a command writes in its own step -/

/-- With the executor ready a meaning writes no record, and leaves the executor ready or at `S2` of a first exchange: an answer is
decoded at `S4` only. -/
theorem ExecShape.of_ready {s t : State} {o : Out} (h : ExecShape s o) (hq : s.seq = .ready) (ho : o = .next t) :
    t.devs = s.devs ∧ (t.seq = .ready ∨ ∃ call k, t.seq = .busy call 0 .s2 k 0) := by
  cases h with
  | ends r v => cases ho; exact ⟨rfl, .inl rfl⟩
  | writes c f v => cases ho; exact ⟨rfl, .inl rfl⟩
  | starts call k =>
    cases ho
    obtain ⟨-, he⟩ | ⟨-, he⟩ := sampleBus_cases call 0 k s <;> rw [he]
    · exact ⟨rfl, .inr ⟨call, k, rfl⟩⟩
    · exact ⟨rfl, .inl rfl⟩
  | decodes f =>
    simp only [decodeInto, State.decoding, hq] at ho
    cases ho
    exact ⟨rfl, .inl hq⟩

/-- Presenting a command writes no record (R86, R244). -/
theorem acceptCommand_devs {cmd : BitVec 128} {s t : State} (h : acceptCommand cmd s = .next t) : t.devs = s.devs := by
  obtain ⟨-, he⟩ | ⟨hq, i, -, he⟩ | ⟨-, -, he⟩ := acceptCommand_cases cmd s <;> rw [he] at h
  · cases h; rfl
  · exact ((exec_shape i (s.record (.command cmd))).of_ready hq h).1
  · cases h; rfl

/-- The numbers of the operations that write a cascade: `pid.*` but `pid.output`, and `cas.*` (R86). -/
def WritesCascade (op : Nat) : Prop := (0x01 ≤ op ∧ op ≤ 0x09 ∧ op ≠ 0x08) ∨ (0x10 ≤ op ∧ op ≤ 0x17)

/-- The outcome leaves every cascade as it was. -/
def KeepsCascades (s : State) (o : Out) : Prop := ∀ t, o = .next t → t.cascades = s.cascades

namespace KeepsCascades

theorem ends (s : State) (r : Result) (v : Word) : KeepsCascades s (.next (s.respond r v)) := by
  rintro _ ⟨⟩
  rfl

theorem starts (s : State) (call : Call) (k : Nat) : KeepsCascades s (start call k s) := by
  rintro _ ⟨⟩
  obtain ⟨-, he⟩ | ⟨-, he⟩ := sampleBus_cases call 0 k s <;> rw [he] <;> rfl

theorem decodes (s : State) (f : ActuatorRecord → ActuatorRecord) : KeepsCascades s (decodeInto f s) := by
  obtain ⟨k, -, he⟩ | ⟨-, he⟩ := decodeInto_cases f s <;> rw [he] <;> rintro _ ⟨⟩ <;> rfl

theorem onDevice {dev : Byte} {s : State} {act : Nat → Out} (h : ∀ k, KeepsCascades s (act k)) :
    KeepsCascades s (onDevice dev s act) := by
  obtain ⟨k, -, he⟩ | ⟨-, he⟩ := onDevice_cases dev s act <;> rw [he]
  · exact h k
  · exact .ends s .deviceNotFound 0

theorem onLoop {dev : Byte} {loop : BitVec 2} {s : State} {act : Loop → Out} (h : ∀ l, KeepsCascades s (act l)) :
    KeepsCascades s (onLoop dev loop s act) := by
  obtain ⟨l, -, -, he⟩ | ⟨-, he⟩ := onLoop_cases dev loop s act <;> rw [he]
  · exact h l
  · exact .ends s .illegalCommand 0

theorem onCascade {dev : Byte} {s : State} {act : Out} (h : KeepsCascades s act) : KeepsCascades s (onCascade dev s act) := by
  obtain ⟨-, he⟩ | ⟨-, he⟩ := onCascade_cases dev s act <;> rw [he]
  · exact h
  · exact .ends s .illegalCommand 0

theorem setChecked (dev : Byte) (ok : Bool) (call : Call) (s : State) : KeepsCascades s (setChecked dev ok call s) := by
  refine onDevice fun k => ?_
  split
  · exact .starts s call k
  · exact .ends s .outOfRange 0

end KeepsCascades

/-- An instruction keeps every cascade, or its number is that of a writing operation. -/
theorem exec_cascades (i : Instr) (s : State) :
    KeepsCascades s (exec i s) ∨ WritesCascade (Laws.tableNumber i).toNat := by
  cases i with
  | pidConfigure | pidSetSetpoint | pidSetFeedback | pidSetFeedforward | pidSetGains | pidSetLimits | pidStep | pidClear
  | casSetMode | casCalculate | casSetCurrent | casSetVelocity | casSetPosition | casSetCurrentFf | casSetVelocityFf
  | casSetPositionFf => exact .inr (by simp [Laws.tableNumber, WritesCascade])
  | pidOutput => exact .inl (.onLoop fun _ => .ends s .success _)
  | q24Encode | q24Decode | t8Encode | t8Decode => exact .inl (.ends s .success _)
  | regFind => exact .inl (.onDevice fun _ => .ends s .success _)
  | regRead =>
    simp only [exec, execRegRead]
    split
    · exact .inl (.ends s .illegalCommand 0)
    · exact .inl (.onDevice fun _ => .ends s .success _)
  | actHandshake | actSetMode | actSetPower => exact .inl (.onDevice fun k => .starts s _ k)
  | actGet | actSetLimit | actSend =>
    simp only [exec, execActGet, execActSetLimit, execActSend]
    split
    · exact .inl (.ends s .illegalCommand 0)
    · exact .inl (.onDevice fun k => .starts s _ k)
  | actSetCurrent | actSetSpeed | actSetPosition => exact .inl (.setChecked _ _ _ s)
  | driveCycle => exact .inl (.onCascade (.starts s _ _))
  | _ => exact .inl (.decodes s _) -- the frame kinds

/-- A command word that decodes is a row of R86, its reserved bits 0 and its operands in their ranges. -/
theorem decodeHost_ok {cmd : BitVec 128} {i : Instr} (h : decodeHost cmd = .ok i) :
    ∃ row ∈ hostTable, row.1 = (hostFields cmd).op ∧ (hostFields cmd).reserved = 0 ∧ i = row.2 (hostFields cmd) ∧
      i.wf = true := by
  unfold decodeHost at h
  cases hr : hostRow (hostFields cmd).op with
  | none => simp only [hr] at h; cases h
  | some mk =>
    simp only [hr] at h
    obtain ⟨row, hf, rfl⟩ := Option.map_eq_some_iff.mp hr
    split at h
    · cases h
    next hres =>
      split at h
      · next hw =>
        cases h
        exact ⟨row, List.mem_of_find?_eq_some hf, by simpa using List.find?_some hf, not_not.mp hres, rfl, hw⟩
      · cases h

/-- Every row of R86 makes an instruction of its own number. -/
theorem tableNumber_of_mem_hostTable : ∀ row ∈ hostTable, ∀ f, Laws.tableNumber (row.2 f) = row.1 := by
  simp [hostTable, Laws.tableNumber]

theorem hostFields_op_toNat (cmd : BitVec 128) : (hostFields cmd).op.toNat = cmd.toNat % 2 ^ 8 := by
  simp [hostFields]

/-- The number of a decoded command is its `op` (R85, R86). -/
theorem tableNumber_of_decodeHost {cmd : BitVec 128} {i : Instr} (h : decodeHost cmd = .ok i) :
    (Laws.tableNumber i).toNat = cmd.toNat % 2 ^ 8 := by
  obtain ⟨row, hrow, hop, -, rfl, -⟩ := decodeHost_ok h
  rw [tableNumber_of_mem_hostTable row hrow, hop, hostFields_op_toNat]

/-- Presenting a command keeps every cascade, but for a writing operation that the ready core accepts (R87, R244). -/
theorem acceptCommand_cascades {cmd : BitVec 128} {s t : State} (h : acceptCommand cmd s = .next t) :
    t.cascades = s.cascades ∨ (s.seq = .ready ∧ WritesCascade (cmd.toNat % 2 ^ 8)) := by
  obtain ⟨-, he⟩ | ⟨hq, i, hi, he⟩ | ⟨-, -, he⟩ := acceptCommand_cases cmd s <;> rw [he] at h
  · cases h; exact .inl rfl
  · obtain hk | hw := exec_cascades i (s.record (.command cmd))
    · exact .inl (hk t h)
    · exact .inr ⟨hq, tableNumber_of_decodeHost hi ▸ hw⟩
  · cases h; exact .inl rfl

/-! ### What an arrival writes (R237) -/

/-- What a frame that arrives makes of its device's record. -/
def receive (a : Arrival) (r : ActuatorRecord) : ActuatorRecord := { r with rx := ⟨a.dlc, a.d⟩, fresh := true }

/-- An arrival writes the record of the device it names, if there is one, and leaves the cascades and the sequencer. -/
theorem notify_frame {a : Arrival} {s t : State} (h : notify a s = .next t) :
    t.cascades = s.cascades ∧ t.seq = s.seq ∧
      (t.devs = s.devs ∨ ∃ k, s.devId k = a.id ∧ t.devs = s.devs.modify k (receive a)) := by
  obtain ⟨-, he⟩ | ⟨-, -, he⟩ | ⟨-, k, hk, he⟩ := notify_cases a s <;> rw [he] at h <;> cases h
  · exact ⟨rfl, rfl, .inl rfl⟩
  · exact ⟨rfl, rfl, .inr ⟨k, (find_some hk).2, rfl⟩⟩

/-! ### What the executor's steps write -/

@[simp] theorem sampleBus_devs (call : Call) (x k : Nat) (s : State) : (sampleBus call x k s).devs = s.devs := by
  obtain ⟨-, he⟩ | ⟨-, he⟩ := sampleBus_cases call x k s <;> simp [he]

@[simp] theorem sampleBus_cascades (call : Call) (x k : Nat) (s : State) : (sampleBus call x k s).cascades = s.cascades := by
  obtain ⟨-, he⟩ | ⟨-, he⟩ := sampleBus_cases call x k s <;> simp [he]

@[simp] theorem transmitStep_cascades (call : Call) (x k : Nat) (s : State) :
    (transmitStep call x k s).cascades = s.cascades := by
  unfold transmitStep
  dsimp only
  split <;> simp

@[simp] theorem noteCommanded_fresh (s : State) (call : Call) (x k : Nat) (r : ActuatorRecord) :
    (noteCommanded s call x k r).fresh = r.fresh := by
  obtain ⟨_, _, _, h⟩ := noteCommanded_frame s call x k r
  rw [h]

@[simp] theorem noteCommanded_phase (s : State) (call : Call) (x k : Nat) (r : ActuatorRecord) :
    (noteCommanded s call x k r).phase = r.phase := by
  obtain ⟨_, _, _, h⟩ := noteCommanded_frame s call x k r
  rw [h]

@[simp] theorem pollStep_devs (call : Call) (x k n : Nat) (s : State) : (pollStep call x k n s).devs = s.devs := by
  obtain ⟨-, he⟩ | ⟨-, -, he⟩ | ⟨-, -, he⟩ := pollStep_cases call x k n s <;> simp [he]

@[simp] theorem pollStep_cascades (call : Call) (x k n : Nat) (s : State) :
    (pollStep call x k n s).cascades = s.cascades := by
  obtain ⟨-, he⟩ | ⟨-, -, he⟩ | ⟨-, -, he⟩ := pollStep_cases call x k n s <;> simp [he]

@[simp] theorem settle_fresh (c : Cfg) (r : ActuatorRecord) : (settle c r).fresh = r.fresh := by
  obtain ⟨_, _, _, h⟩ := settle_frame c r
  rw [h]

/-- A settled record no longer awaits an acknowledgement (R172, R174). -/
theorem settle_phase_ne_awaitingAck (c : Cfg) (r : ActuatorRecord) : (settle c r).phase ≠ .awaitingAck := by
  unfold settle
  split <;> simp

/-- After `drive_cycle`'s third exchange the command ends or goes on to its fourth (R215). -/
theorem driveCascade_seq (k : Nat) (s : State) :
    (driveCascade k s).seq = .ready ∨ (driveCascade k s).seq = .busy .driveCycle 3 .s1 k 0 := by
  unfold driveCascade
  dsimp only
  split
  · exact .inr rfl
  · exact .inl rfl

/-- After a successful exchange the command ends or goes on to `S1` of the next one (R209, R210, R215). -/
theorem afterSuccess_seq (call : Call) (x k : Nat) (s : State) :
    (afterSuccess call x k s).seq = .ready ∨ ∃ y, (afterSuccess call x k s).seq = .busy call y .s1 k 0 := by
  cases call with
  | setMode m | setPower p =>
    simp only [afterSuccess]
    split
    · exact .inr ⟨1, rfl⟩
    · split <;> exact .inl rfl
  | driveCycle =>
    simp only [afterSuccess]
    split
    · exact .inr ⟨x + 1, rfl⟩
    · split
      · exact (driveCascade_seq k s).imp_right fun h => ⟨3, h⟩
      · exact .inl rfl
  | _ => exact .inl rfl

/-- A successful exchange writes a cascade only as the third one of `drive_cycle` (R215). -/
theorem afterSuccess_cascades (call : Call) (x k : Nat) (s : State) :
    (afterSuccess call x k s).cascades = s.cascades ∨ (call = .driveCycle ∧ x = 2) := by
  obtain ⟨-, -, hother⟩ := afterSuccess_frame call x k s
  by_cases hc : call = .driveCycle
  · subst hc
    by_cases hx : x = 2
    · exact .inr ⟨rfl, hx⟩
    · simp only [afterSuccess, if_neg hx]
      split <;> exact .inl rfl
  · exact .inl (hother hc)

/-- What `S5` can do, by `ack` (R172). -/
theorem settleStep_cases (call : Call) (x k : Nat) (s : State) :
    ((s.dev k).ack = .success ∧ settleStep call x k s = afterSuccess call x k (s.modDev k (settle s.cfg))) ∨
    ((s.dev k).ack = .fail ∧ settleStep call x k s = (s.modDev k (settle s.cfg)).respond .ackFailure 0) ∨
    ((s.dev k).ack = .clear ∧ settleStep call x k s = (s.modDev k (settle s.cfg)).respond .ackTimeout 0) := by
  unfold settleStep
  cases (s.dev k).ack with
  | success => exact .inl ⟨rfl, rfl⟩
  | fail => exact .inr (.inl ⟨rfl, rfl⟩)
  | clear => exact .inr (.inr ⟨rfl, rfl⟩)

/-- After `S5` the command has ended or stands at `S1` of its next exchange. -/
theorem settleStep_seq (call : Call) (x k : Nat) (s : State) :
    (settleStep call x k s).seq = .ready ∨ ∃ y, (settleStep call x k s).seq = .busy call y .s1 k 0 := by
  obtain ⟨-, he⟩ | ⟨-, he⟩ | ⟨-, he⟩ := settleStep_cases call x k s <;> rw [he]
  · exact afterSuccess_seq call x k _
  · exact .inl rfl
  · exact .inl rfl

/-- `S5` writes a cascade only where it settles the third exchange of `drive_cycle` with `ack` Success (R215). -/
theorem settleStep_cascades (call : Call) (x k : Nat) (s : State) :
    (settleStep call x k s).cascades = s.cascades ∨ (call = .driveCycle ∧ x = 2 ∧ (s.dev k).ack = .success) := by
  obtain ⟨hack, he⟩ | ⟨-, he⟩ | ⟨-, he⟩ := settleStep_cases call x k s <;> rw [he]
  · exact (afterSuccess_cascades call x k (s.modDev k (settle s.cfg))).imp_right fun ⟨hc, hx⟩ => ⟨hc, hx, hack⟩
  · exact .inl rfl
  · exact .inl rfl

namespace ExecutorShape

variable {s t : State}

theorem cfg (h : ExecutorShape s t) : t.cfg = s.cfg := by cases h <;> simp

/-- The executor writes a cascade only in the step that settles `drive_cycle`'s third exchange. -/
theorem cascades (h : ExecutorShape s t) :
    t.cascades = s.cascades ∨ ∃ k n, At s .driveCycle 2 .s5 k n ∧ (s.dev k).ack = .success := by
  cases h with
  | @settle call x k n hq =>
    obtain h | ⟨rfl, rfl, hack⟩ := settleStep_cascades call x k s
    · exact .inl h
    · exact .inr ⟨_, _, hq, hack⟩
  | idle | clear | decode | exhaust => exact .inl rfl
  | _ => exact .inl (by simp)

/-- The executor writes at most one record, that of the exchange in progress, at a point that writes; `fresh` is cleared at `S2` and
kept at every other point. -/
theorem devs (h : ExecutorShape s t) :
    t.devs = s.devs ∨ ∃ call x p k n f, At s call x p k n ∧ p ∈ [Point.s2, .s3, .s4, .s5, .s5a] ∧
      t.devs = s.devs.modify k f ∧ ∀ r, (f r).fresh = if p = .s2 then false else r.fresh := by
  cases h with
  | idle => exact .inl rfl
  | sample => exact .inl (by simp)
  | poll => exact .inl (by simp)
  | clear hq => exact .inr ⟨_, _, _, _, _, _, hq, by simp, rfl, fun _ => rfl⟩
  | @transmit call x k n hq =>
    obtain ⟨-, -, hd⟩ | ⟨-, -, hd⟩ := transmitStep_cases call x k s
    · exact .inr ⟨_, _, _, _, _, _, hq, by simp, hd, fun r => by simp⟩
    · exact .inr ⟨_, _, _, _, _, _, hq, by simp, hd, fun _ => rfl⟩
  | decode hq hf => exact .inr ⟨_, _, _, _, _, _, hq, by simp, rfl, fun r => (hf r).2.1⟩
  | settle hq => exact .inr ⟨_, _, _, _, _, _, hq, by simp, (settleStep_frame _ _ _ s).1, settle_fresh s.cfg⟩
  | exhaust hq => exact .inr ⟨_, _, _, _, _, _, hq, by simp, rfl, fun _ => rfl⟩

/-- The executor keeps `fresh` of every device but the one it clears at `S2` (R39, R172). -/
theorem fresh (h : ExecutorShape s t) (j : Nat) :
    (t.dev j).fresh = (s.dev j).fresh ∨ ((t.dev j).fresh = false ∧ ∃ call x n, At s call x .s2 j n) := by
  obtain hd | ⟨call, x, p, k, n, f, hat, -, hd, hf⟩ := h.devs
  · exact .inl (by rw [dev_congr hd h.cfg])
  · rw [dev_congr (s := s.modDev k f) hd h.cfg]
    obtain hj | ⟨rfl, hj⟩ := dev_modDev_cases s k j f <;> rw [hj]
    · exact .inl rfl
    · by_cases hp : p = .s2
      · subst hp
        exact .inr ⟨by rw [hf, if_pos rfl], call, x, n, hat⟩
      · exact .inl (by rw [hf, if_neg hp])

end ExecutorShape

/-! ### Who writes the cascades and the records (R30, R34) -/

/-- Settles O59, by the agent that moves. -/
theorem onlyTheseStepsWriteCascadesAndRecords : Obligations.OnlyTheseStepsWriteCascadesAndRecords := by
  intro s t h
  cases step_shape h with
  | executor hi he =>
    refine ⟨fun hc => ?_, fun hd => ?_⟩
    · obtain ⟨k, n, hat, hack⟩ := he.cascades.resolve_left hc
      exact .inr (.inl ⟨k, n, _, hat, hi, hack⟩)
    · obtain ⟨call, x, p, k, n, -, hat, hp, -⟩ := he.devs.resolve_left hd
      exact .inr (.inl ⟨call, x, p, k, n, _, hat, hi, hp⟩)
  | command hi he =>
    have hdevs := acceptCommand_devs he
    refine ⟨fun hc => ?_, fun hd => absurd hdevs hd⟩
    obtain ⟨hq, hop⟩ := (acceptCommand_cascades he).resolve_left hc
    exact .inl ⟨_, _, hq, hi, hop, hdevs⟩
  | arrival hi he =>
    obtain ⟨hcas, -, -⟩ := notify_frame he
    exact ⟨fun hc => absurd hcas hc, fun _ => .inl ⟨_, _, hi, hcas⟩⟩
  | reset hi => exact ⟨fun _ => .inr (.inr ⟨_, hi⟩), fun _ => .inr (.inr ⟨_, hi⟩)⟩

/-! ### `fresh` (R39) -/

/-- What a step does to `fresh` of a device: it is kept, or set by an arrival from the device, or cleared by `S2` or by reset. -/
theorem step_fresh {s t : State} (h : step s = .next t) (k : Nat) :
    (t.dev k).fresh = (s.dev k).fresh ∨
    ((t.dev k).fresh = true ∧ ∃ a rest, s.inputs = .arrival a :: rest ∧ a.id = s.devId k) ∨
    ((t.dev k).fresh = false ∧ ∃ call x n, At s call x .s2 k n) ∨
    ((t.dev k).fresh = false ∧ ∃ rest, s.inputs = .reset :: rest) := by
  cases step_shape h with
  | executor hi he => exact (he.fresh k).imp_right fun h => .inr (.inl h)
  | command hi he => exact .inl (by rw [dev_congr (acceptCommand_devs he) (acceptCommand_cfg he), begin_dev])
  | @arrival a rest _ hi he =>
    obtain ⟨-, -, hd | ⟨j, hj, hd⟩⟩ := notify_frame he
    · exact .inl (by rw [dev_congr hd (notify_cfg he), begin_dev])
    · have hc : t.cfg = (s.begin rest).cfg := notify_cfg he
      rw [dev_congr (s := (s.begin rest).modDev j (receive a)) hd hc]
      obtain hk | ⟨rfl, hk⟩ := dev_modDev_cases (s.begin rest) j k (receive a) <;> rw [hk]
      · exact .inl rfl
      · exact .inr (.inl ⟨rfl, a, rest, hi, hj.symm⟩)
  | reset hi => exact .inr (.inr (.inr ⟨by rw [applyReset_dev]; rfl, _, hi⟩))

/-- Settles O58, from the four things a step can do to `fresh`. -/
theorem freshIsSetByArrivalsAndClearedByS2 : Obligations.FreshIsSetByArrivalsAndClearedByS2 := by
  intro s t k _ _ h
  refine ⟨fun h0 h1 => ?_, fun h1 h0 => ?_, fun rest hi => ?_⟩
  · obtain hk | ⟨-, ha⟩ | ⟨hf, -⟩ | ⟨hf, -⟩ := step_fresh h k
    · cases (h1.symm.trans hk).trans h0
    · exact ha
    · cases h1.symm.trans hf
    · cases h1.symm.trans hf
  · obtain hk | ⟨ht, -⟩ | ⟨-, hs2⟩ | ⟨-, hr⟩ := step_fresh h k
    · cases (h0.symm.trans hk).trans h1
    · cases h0.symm.trans ht
    · exact .inr hs2
    · exact .inl hr
  · simp only [step, hi] at h
    cases h
    rw [applyReset_dev]
    rfl

/-! ### Single flight (R46, R174) -/

@[simp] theorem Seq.not_awaits_ready (k : Nat) : ¬ Seq.ready.awaits k := False.elim

@[simp] theorem Seq.awaits_busy (call : Call) (x : Nat) (p : Point) (k n j : Nat) :
    (Seq.busy call x p k n).awaits j ↔ k = j ∧ (p = .poll ∨ p = .s4 ∨ p = .s5 ∨ p = .s5a) := Iff.rfl

/-- The sequencer waits for one device at a time. -/
theorem Seq.awaits_unique {q : Seq} {j k : Nat} (hj : q.awaits j) (hk : q.awaits k) : j = k := by
  cases q with
  | ready => exact hj.elim
  | busy => exact hj.1.symm.trans hk.1

/-- The phases tell which device the sequencer waits for: the clause of the invariant that single flight rests on. -/
def State.AwaitsExactly (s : State) : Prop :=
  ∀ k, k < s.cfg.nDev → ((s.dev k).phase = .awaitingAck ↔ s.seq.awaits k)

namespace State.AwaitsExactly

variable {s t : State}

theorem of_samePhases (hs : s.AwaitsExactly) (hp : ∀ k, (t.dev k).phase = (s.dev k).phase) (hc : t.cfg = s.cfg)
    (hq : ∀ k, t.seq.awaits k ↔ s.seq.awaits k) : t.AwaitsExactly := by
  intro k hk
  rw [hp, hq]
  exact hs k (hc ▸ hk)

theorem of_sameDevs (hs : s.AwaitsExactly) (hd : t.devs = s.devs) (hc : t.cfg = s.cfg)
    (hq : ∀ k, t.seq.awaits k ↔ s.seq.awaits k) : t.AwaitsExactly :=
  hs.of_samePhases (fun k => by rw [dev_congr hd hc]) hc hq

/-- A write to one record that keeps its phase. -/
theorem of_phaseKept (hs : s.AwaitsExactly) {k : Nat} {f : ActuatorRecord → ActuatorRecord} (hf : ∀ r, (f r).phase = r.phase)
    (hd : t.devs = s.devs.modify k f) (hc : t.cfg = s.cfg) (hq : ∀ k, t.seq.awaits k ↔ s.seq.awaits k) : t.AwaitsExactly := by
  refine hs.of_samePhases (fun j => ?_) hc hq
  rw [dev_congr (s := s.modDev k f) hd hc]
  exact dev_modDev_field ActuatorRecord.phase hf s k j

/-- A write to the record of the exchange in progress, where the sequencer goes on waiting for no other device. -/
theorem of_write (hs : s.AwaitsExactly) (hl : s.devs.length = s.cfg.nDev) {call : Call} {x k n : Nat} {p : Point}
    (hq : s.seq = .busy call x p k n) {f : ActuatorRecord → ActuatorRecord} (hd : t.devs = s.devs.modify k f)
    (hc : t.cfg = s.cfg) (hsame : k < s.cfg.nDev → ((f (s.dev k)).phase = .awaitingAck ↔ t.seq.awaits k))
    (hother : ∀ j, t.seq.awaits j → k = j) : t.AwaitsExactly := by
  intro j hj
  rw [hc] at hj
  rw [dev_congr (s := s.modDev k f) hd hc]
  by_cases hjk : j = k
  · subst hjk
    rw [dev_modDev_same s j f (hl ▸ hj)]
    exact hsame hj
  · rw [dev_modDev_other s f hjk, hs j hj, hq]
    exact ⟨fun h => absurd h.1.symm hjk, fun h => absurd (hother j h).symm hjk⟩

end State.AwaitsExactly

/-- The executor keeps the phases and the sequencer in step. -/
theorem ExecutorShape.awaitsExactly {s t : State} (h : ExecutorShape s t) (hs : s.AwaitsExactly)
    (hl : s.devs.length = s.cfg.nDev) : t.AwaitsExactly := by
  have hc := h.cfg
  cases h with
  | idle => exact hs
  | @sample call x k n hq =>
    refine hs.of_sameDevs (by simp) hc fun j => ?_
    obtain ⟨-, he⟩ | ⟨-, he⟩ := sampleBus_cases call x k s <;> simp [he, hq]
  | clear hq => exact hs.of_phaseKept (f := clearFlags) (fun _ => rfl) rfl hc fun j => by simp [clearStep, hq]
  | @transmit call x k n hq =>
    obtain ⟨-, hseq, hd⟩ | ⟨-, hseq, hd⟩ := transmitStep_cases call x k s
    · exact hs.of_write hl hq hd hc (fun _ => by simp [hseq]) (fun _ h => by rw [hseq] at h; exact h.1)
    · exact hs.of_write hl hq hd hc (fun _ => by simp [hseq]) (fun _ h => by rw [hseq] at h; exact h.elim)
  | @poll call x k n hq =>
    refine hs.of_sameDevs (by simp) hc fun j => ?_
    obtain ⟨-, he⟩ | ⟨-, -, he⟩ | ⟨-, -, he⟩ := pollStep_cases call x k n s <;> simp [he, hq]
  | decode hq hf => exact hs.of_phaseKept (fun r => (hf r).1) rfl hc fun j => by simp [hq]
  | @settle call x k n hq =>
    have hno : ∀ j, ¬ (settleStep call x k s).seq.awaits j := fun j => by
      obtain h | ⟨y, h⟩ := settleStep_seq call x k s <;> simp [h]
    exact hs.of_write hl hq (settleStep_frame call x k s).1 hc
      (fun _ => iff_of_false (settle_phase_ne_awaitingAck _ _) (hno k)) (fun j h => absurd h (hno j))
  | exhaust hq => exact hs.of_write hl hq rfl hc (fun _ => iff_of_false nofun id) (fun _ h => h.elim)

theorem acceptCommand_awaitsExactly {cmd : BitVec 128} {s t : State} (h : acceptCommand cmd s = .next t)
    (hs : s.AwaitsExactly) : t.AwaitsExactly := by
  refine hs.of_sameDevs (acceptCommand_devs h) (acceptCommand_cfg h) fun k => ?_
  obtain ⟨-, he⟩ | ⟨hq, i, -, he⟩ | ⟨hq, -, he⟩ := acceptCommand_cases cmd s <;> rw [he] at h
  · cases h; rfl
  · obtain ⟨-, hr | ⟨call, k, hr⟩⟩ := (exec_shape i (s.record (.command cmd))).of_ready hq h <;> simp [hq, hr]
  · cases h; simp [hq]

theorem notify_awaitsExactly {a : Arrival} {s t : State} (h : notify a s = .next t) (hs : s.AwaitsExactly) :
    t.AwaitsExactly := by
  obtain ⟨-, hq, hd | ⟨k, -, hd⟩⟩ := notify_frame h
  · exact hs.of_sameDevs hd (notify_cfg h) fun _ => by rw [hq]
  · exact hs.of_phaseKept (f := receive a) (fun _ => rfl) hd (notify_cfg h) fun _ => by rw [hq]

/-- Every step keeps the phases and the sequencer in step (R174). -/
theorem step_awaitsExactly {s t : State} (h : step s = .next t) (hs : s.AwaitsExactly)
    (hl : s.devs.length = s.cfg.nDev) : t.AwaitsExactly := by
  cases step_shape h with
  | @executor rest _ hi he => exact he.awaitsExactly (s := s.begin rest) hs hl
  | @command cmd rest _ hi he => exact acceptCommand_awaitsExactly (s := s.begin rest) he hs
  | @arrival a rest _ hi he => exact notify_awaitsExactly (s := s.begin rest) he hs
  | reset hi =>
    intro k _
    rw [applyReset_dev]
    exact iff_of_false nofun id

/-- Settles O56: the phases tell the sequencer's one device. -/
theorem atMostOneRequestIsOutstanding : Obligations.AtMostOneRequestIsOutstanding := by
  intro s t hinv h j k hj hk
  have ht := step_awaitsExactly h hinv.awaiting hinv.nDevs
  refine ⟨fun haj hak => Seq.awaits_unique ((ht j hj).mp haj) ((ht k hk).mp hak), fun hq hak => ?_⟩
  have hw := (ht k hk).mp hak
  rw [hq] at hw
  exact hw

end Sys2Proof.Machine
end

section
/-! PROOFS. What the decoder makes of a packed word and of R87's conditions, and the statements of the family 30_encoding.md about
the encodings. -/

namespace Sys2Proof.Machine

open Sys2Proof.Spec

/-! ### Decoding an encoding (R85, R86, R92) -/

/-- A command packed with the number of a row decodes to the instruction that the row makes of its fields. -/
theorem decodeHost_packHost {op dev : Byte} {loop : BitVec 2} {imm8 : Byte} {a b c : Word} {mk : HostFields → Instr} {i : Instr}
    (hrow : hostRow op = some mk) (hi : mk ⟨op, dev, loop, 0, imm8, a, b, c⟩ = i) (hw : i.wf = true) :
    decodeHost (packHost op dev loop imm8 a b c) = .ok i := by
  subst hi
  simp only [decodeHost, hostFields_packHost, hrow, hw, ne_eq, not_true_eq_false, if_true, if_false]

/-- The low half of a zero-extended raw is the raw (R86 row 0x23). -/
theorem extractLsb'_setWidth_raw (raw : BitVec 16) : (raw.setWidth 32).extractLsb' 0 16 = raw := by
  apply BitVec.eq_of_toNat_eq
  simp only [BitVec.extractLsb'_toNat, BitVec.toNat_setWidth, Nat.shiftRight_zero]
  omega

/-- Settles O4, by the constructor: a host command is a row of R86, a frame kind an answer frame of R92. -/
theorem decodeOfEncodeIsTheInstruction : Obligations.DecodeOfEncodeIsTheInstruction := by
  intro g i hg hw
  cases i with
  | t8Decode raw => exact decodeHost_packHost rfl (congrArg Instr.t8Decode (extractLsb'_setWidth_raw raw)) rfl
  | pidConfigure | pidSetSetpoint | pidSetFeedback | pidSetFeedforward | pidSetGains | pidSetLimits | pidStep | pidOutput
  | pidClear | casSetMode | casCalculate | casSetCurrent | casSetVelocity | casSetPosition | casSetCurrentFf
  | casSetVelocityFf | casSetPositionFf | q24Encode | q24Decode | t8Encode | regFind | regRead | actHandshake | actGet
  | actSetCurrent | actSetSpeed | actSetPosition | actSetMode | actSetPower | actSetLimit | actSend | driveCycle =>
    exact decodeHost_packHost rfl rfl hw
  | _ => exact decode_packFrame hg _ hw -- the frame kinds

/-- Settles O6: the words are concrete, so the decoder computes the instructions and the errors. -/
theorem listedWordsDecode : Obligations.ListedWordsDecode := ⟨rfl, rfl, rfl, rfl, rfl, rfl, rfl⟩

/-! ### Which command words decode (R87) -/

theorem hostFields_dev_toNat (cmd : BitVec 128) : (hostFields cmd).dev.toNat = cmd.toNat / 2 ^ 8 % 2 ^ 8 := by
  simp [hostFields, Nat.shiftRight_eq_div_pow]

theorem hostFields_loop_toNat (cmd : BitVec 128) : (hostFields cmd).loop.toNat = cmd.toNat / 2 ^ 16 % 2 ^ 2 := by
  simp [hostFields, Nat.shiftRight_eq_div_pow]

theorem hostFields_reserved_toNat (cmd : BitVec 128) : (hostFields cmd).reserved.toNat = cmd.toNat / 2 ^ 18 % 2 ^ 6 := by
  simp [hostFields, Nat.shiftRight_eq_div_pow]

theorem hostFields_imm8_toNat (cmd : BitVec 128) : (hostFields cmd).imm8.toNat = cmd.toNat / 2 ^ 24 % 2 ^ 8 := by
  simp [hostFields, Nat.shiftRight_eq_div_pow]

/-- The listed operations are those of the table's rows (R86). -/
theorem opListed_iff (op : Byte) : opListed op.toNat = true ↔ op ∈ hostTable.map Prod.fst := by
  simp only [opListed, Bool.or_eq_true, Bool.and_eq_true, decide_eq_true_eq, beq_iff_eq, hostTable, List.map_cons,
    List.map_nil, List.mem_cons, List.not_mem_nil, or_false, ← BitVec.toNat_inj, BitVec.ofNat_eq_ofNat, BitVec.toNat_ofNat,
    Nat.reducePow, Nat.one_mod, Nat.reduceMod]
  omega

theorem hostRow_of_mem {row : Byte × (HostFields → Instr)} (h : row ∈ hostTable) : hostRow row.1 = some row.2 := by
  fin_cases h <;> rfl

theorem loopOk_iff (loop : BitVec 2) : loopOk loop = true ↔ loop.toNat ≠ 3 := by
  revert loop; decide

/-- The condition of R87 on `dev`, which the meanings check: a cascade index is below the number of devices. -/
def DevBelow (nDev : Nat) : Instr → Prop
  | .pidConfigure dev _ _ _ _ _ | .pidSetSetpoint dev _ _ | .pidSetFeedback dev _ _ | .pidSetFeedforward dev _ _
  | .pidSetGains dev _ _ _ _ | .pidSetLimits dev _ _ _ | .pidStep dev _ | .pidOutput dev _ | .pidClear dev _
  | .casSetMode dev _ | .casCalculate dev | .casSetCurrent dev _ | .casSetVelocity dev _ | .casSetPosition dev _
  | .casSetCurrentFf dev _ _ | .casSetVelocityFf dev _ _ | .casSetPositionFf dev _ _ | .driveCycle dev => dev.toNat < nDev
  | _ => True

theorem devBelow_256 (i : Instr) : DevBelow 256 i := by
  cases i with
  | pidConfigure | pidSetSetpoint | pidSetFeedback | pidSetFeedforward | pidSetGains | pidSetLimits | pidStep | pidOutput
  | pidClear | casSetMode | casCalculate | casSetCurrent | casSetVelocity | casSetPosition | casSetCurrentFf
  | casSetVelocityFf | casSetPositionFf | driveCycle => exact BitVec.isLt _
  | _ => trivial

/-- Which operands the table's instructions check, by the number of the row (R87). -/
theorem row_wf_iff {row : Byte × (HostFields → Instr)} (hrow : row ∈ hostTable) (h : HostFields) : (row.2 h).wf = true ↔
    (0x01 ≤ row.1.toNat ∧ row.1.toNat ≤ 0x09 → h.loop.toNat ≠ 3) ∧ (row.1.toNat = 0x01 → h.imm8.toNat ≤ 1) ∧
    (row.1.toNat = 0x10 → h.imm8.toNat ≤ 5) ∧ (row.1.toNat = 0x31 → h.imm8.toNat ≤ 31) ∧
    (row.1.toNat = 0x41 → h.imm8.toNat ≤ 19) ∧ (row.1.toNat = 0x47 → h.imm8.toNat ≤ 5) ∧
    (row.1.toNat = 0x48 → h.imm8.toNat ≠ 0 ∧ h.imm8.toNat ≤ 8) := by
  fin_cases hrow <;> simp [Instr.wf, loopOk_iff, Nat.one_le_iff_ne_zero]

/-- Which rows have a cascade index: `pid.*`, `cas.*` and `drive_cycle` (R87). -/
theorem row_devBelow_iff (nDev : Nat) {row : Byte × (HostFields → Instr)} (hrow : row ∈ hostTable) (h : HostFields) :
    DevBelow nDev (row.2 h) ↔ ((0x01 ≤ row.1.toNat ∧ row.1.toNat ≤ 0x09) ∨ (0x10 ≤ row.1.toNat ∧ row.1.toNat ≤ 0x17) ∨
      row.1.toNat = 0x50 → h.dev.toNat < nDev) := by
  fin_cases hrow <;> simp [DevBelow]

/-- For a word with the number of a row, R87's conditions are those of the row's instruction and of the reserved bits. -/
theorem illegalWord_row (nDev : Nat) (cmd : BitVec 128) {row : Byte × (HostFields → Instr)} (hrow : row ∈ hostTable)
    (hop : row.1 = (hostFields cmd).op) :
    illegalWord nDev cmd = false ↔ (hostFields cmd).reserved = 0 ∧ (row.2 (hostFields cmd)).wf = true ∧
      DevBelow nDev (row.2 (hostFields cmd)) := by
  have hlisted : opListed row.1.toNat = true := (opListed_iff _).mpr (List.mem_map_of_mem hrow)
  have hres : (hostFields cmd).reserved = 0 ↔ (hostFields cmd).reserved.toNat = 0 := by rw [← BitVec.toNat_inj]; rfl
  rw [row_wf_iff hrow, row_devBelow_iff nDev hrow, hres]
  simp only [illegalWord, ← hostFields_op_toNat, ← hostFields_dev_toNat, ← hostFields_loop_toNat,
    ← hostFields_reserved_toNat, ← hostFields_imm8_toNat, ← hop, hlisted]
  simp only [Bool.not_true, Bool.false_or, Bool.or_eq_false_iff, bne_eq_false_iff_eq, Bool.and_eq_false_imp,
    Bool.and_eq_true, Bool.or_eq_true, decide_eq_true_eq, decide_eq_false_iff_not, beq_iff_eq, beq_eq_false_iff_ne, ne_eq,
    not_le, not_lt, and_imp, and_assoc, or_assoc]
  exact ⟨fun ⟨hr, hl, hd, h1, h2, h3, h4, h5, h6⟩ => ⟨hr, hl, h1, h2, h3, h4, h5, h6, hd⟩,
    fun ⟨hr, hl, h1, h2, h3, h4, h5, h6, hd⟩ => ⟨hr, hl, hd, h1, h2, h3, h4, h5, h6⟩⟩

/-- None of R87's conditions holds of a word exactly when it decodes to an instruction whose `dev` is in range. -/
theorem illegalWord_eq_false_iff (nDev : Nat) (cmd : BitVec 128) :
    illegalWord nDev cmd = false ↔ ∃ i, decodeHost cmd = .ok i ∧ DevBelow nDev i := by
  constructor
  · intro h
    have hlisted : opListed (hostFields cmd).op.toNat = true := by
      by_contra hno
      rw [hostFields_op_toNat, Bool.not_eq_true] at hno
      simp only [illegalWord, hno, Bool.not_false, Bool.true_or, reduceCtorEq] at h
    obtain ⟨row, hrow, hop⟩ := List.mem_map.mp ((opListed_iff _).mp hlisted)
    obtain ⟨hres, hw, hdev⟩ := (illegalWord_row nDev cmd hrow hop).mp h
    refine ⟨row.2 (hostFields cmd), ?_, hdev⟩
    simp only [decodeHost, ← hop, hostRow_of_mem hrow, hres, hw, ne_eq, not_true_eq_false, if_true, if_false]
  · rintro ⟨i, hi, hdev⟩
    obtain ⟨row, hrow, hop, hres, rfl, hw⟩ := decodeHost_ok hi
    exact (illegalWord_row nDev cmd hrow hop).mpr ⟨hres, hw, hdev⟩

/-! ### Which frames decode (R88, R94) -/

theorem answer_wf_iff (d : Bytes8) (dlc : BitVec 4) : (d.answer dlc).wf = true ↔ dlc.toNat ≤ 8 := decide_eq_true_iff

theorem ofAnswer_wf (ans : Answer) (kind : FrameKind) : (Instr.ofAnswer ans kind).wf = ans.wf := by cases kind <;> rfl

/-- A frame decodes exactly when its first byte is a known opcode and its length is at most eight (R94, R88). -/
theorem decodeFrame_ok_iff (g : Cfg) (dlc : BitVec 4) (d : Bytes8) :
    (∃ i, decodeFrame g dlc d = .ok i) ↔ (∃ kind, g.kindOf d.d0 = some kind) ∧ dlc.toNat ≤ 8 := by
  constructor
  · rintro ⟨i, hi⟩
    obtain ⟨kind, hk, hw, -⟩ := decodeFrame_ok hi
    exact ⟨⟨kind, hk⟩, (answer_wf_iff d dlc).mp hw⟩
  · rintro ⟨⟨kind, hk⟩, hlen⟩
    exact ⟨.ofAnswer (d.answer dlc) kind, by simp only [decodeFrame, hk, (answer_wf_iff d dlc).mpr hlen, if_true]⟩

/-- Whatever the decoder answers is well formed: it checks a command, and a frame's instruction is as well formed as its answer. -/
theorem decode_wf {g : Cfg} {e : Encoded} {i : Instr} (h : decode g e = .ok i) : i.wf = true := by
  cases e with
  | host cmd =>
    obtain ⟨-, -, -, -, -, hw⟩ := decodeHost_ok h
    exact hw
  | frame dlc d =>
    obtain ⟨kind, -, hw, rfl⟩ := decodeFrame_ok h
    rw [ofAnswer_wf, hw]

/-- Settles O5: with 256 devices the condition on `dev` holds of no word, so R87's other conditions decide. -/
theorem decodedInstructionsAreWellFormed : Obligations.DecodedInstructionsAreWellFormed := by
  refine ⟨fun cmd => ?_, decodeFrame_ok_iff, fun _ _ _ => decode_wf⟩
  rw [illegalWord_eq_false_iff]
  exact ⟨fun ⟨i, hi⟩ => ⟨i, hi, devBelow_256 i⟩, fun ⟨i, hi, _⟩ => ⟨i, hi⟩⟩

end Sys2Proof.Machine
end

section
/-! PROOFS. What a presented command does in its step, what the meanings make of operands out of their range, the setters of a loop,
the start of an exchange, and the statements of the family 30_encoding.md about one step. -/

namespace Sys2Proof.Machine

open Sys2Proof.Spec

/-! ### The step of the host and the step of the executor (R66, R85) -/

theorem step_command {s : State} {cmd : BitVec 128} {rest : List Input} (hi : s.inputs = .command cmd :: rest) :
    step s = acceptCommand cmd (s.begin rest) := by
  simp only [step, hi]

theorem step_of_executorMoves {s : State} {rest : List Input} (h : ExecutorMoves s rest) :
    step s = executorStep (s.begin rest) := by
  obtain hi | ⟨hi, rfl⟩ := h <;> simp only [step, hi]

theorem acceptCommand_ok {s : State} {cmd : BitVec 128} {i : Instr} (hq : s.seq = .ready) (hi : decodeHost cmd = .ok i) :
    acceptCommand cmd s = exec i (s.record (.command cmd)) := by
  simp only [acceptCommand, hq, hi]

theorem acceptCommand_error {s : State} {cmd : BitVec 128} {e : DecodeError} (hq : s.seq = .ready)
    (he : decodeHost cmd = .error e) : acceptCommand cmd s = illegal (s.record (.command cmd)) := by
  simp only [acceptCommand, hq, he]

/-- Settles O8: the ready core accepts the command that is presented. -/
theorem stepRunsTheDecodedCommand : Obligations.StepRunsTheDecodedCommand := by
  intro s cmd rest i hq hi hdec
  rw [step_command hi, acceptCommand_ok (s := s.begin rest) hq hdec]

/-! ### Operands out of their range (R87) -/

theorem PidMode.ofImm_eq_none_iff (b : Byte) : PidMode.ofImm b = none ↔ 1 < b.toNat := by
  unfold PidMode.ofImm
  split
  · next h => simp [h]
  · split
    · next h => simp [h]
    · next h0 h1 => simp only [true_iff]; bv_omega

theorem OpMode.ofImm_eq_none_iff (b : Byte) : OpMode.ofImm b = none ↔ 5 < b.toNat := List.getElem?_eq_none_iff

theorem getKind_eq_none_iff (b : Byte) : getKind b = none ↔ 19 < b.toNat := List.getElem?_eq_none_iff

theorem limitKind_eq_none_iff (b : Byte) : limitKind b = none ↔ 5 < b.toNat := List.getElem?_eq_none_iff

theorem onLoop_illegal {dev : Byte} {loop : BitVec 2} {s : State} (h : s.cfg.nDev ≤ dev.toNat ∨ loop = 3) (act : Loop → Out) :
    onLoop dev loop s act = illegal s := by
  obtain ⟨l, hl, hd, -⟩ | ⟨-, he⟩ := onLoop_cases dev loop s act
  · obtain h | rfl := h
    · omega
    · cases hl
  · exact he

theorem onCascade_illegal {dev : Byte} {s : State} (h : s.cfg.nDev ≤ dev.toNat) (act : Out) : onCascade dev s act = illegal s := by
  obtain ⟨hd, -⟩ | ⟨-, he⟩ := onCascade_cases dev s act
  · omega
  · exact he

theorem execPidConfigure_illegal {dev mode : Byte} {loop : BitVec 2} {s : State}
    (h : s.cfg.nDev ≤ dev.toNat ∨ loop = 3 ∨ 1 < mode.toNat) (kp ki kd : F) :
    execPidConfigure dev loop mode kp ki kd s = illegal s := by
  unfold execPidConfigure
  cases hm : PidMode.ofImm mode with
  | none => rfl
  | some m =>
    have hle : ¬ 1 < mode.toNat := fun hlt => by cases hm.symm.trans ((PidMode.ofImm_eq_none_iff mode).mpr hlt)
    exact onLoop_illegal (by tauto) _

theorem execCasSetMode_illegal {dev mode : Byte} {s : State} (h : s.cfg.nDev ≤ dev.toNat ∨ 5 < mode.toNat) :
    execCasSetMode dev mode s = illegal s := by
  unfold execCasSetMode
  cases hm : OpMode.ofImm mode with
  | none => rfl
  | some m =>
    have hle : ¬ 5 < mode.toNat := fun hlt => by cases hm.symm.trans ((OpMode.ofImm_eq_none_iff mode).mpr hlt)
    exact onCascade_illegal (h.resolve_right hle) _

/-- An instruction whose cascade index is not below the number of devices is illegal, whatever its other operands are. -/
theorem exec_illegal_of_not_devBelow {i : Instr} {s : State} (h : ¬ DevBelow s.cfg.nDev i) : exec i s = illegal s := by
  cases i with
  | pidConfigure => exact execPidConfigure_illegal (.inl (not_lt.mp h)) ..
  | pidSetSetpoint | pidSetFeedback | pidSetFeedforward | pidSetGains | pidSetLimits | pidStep | pidOutput | pidClear =>
    exact onLoop_illegal (.inl (not_lt.mp h)) _
  | casSetMode => exact execCasSetMode_illegal (.inl (not_lt.mp h))
  | casCalculate | casSetCurrent | casSetVelocity | casSetPosition | casSetCurrentFf | casSetVelocityFf
  | casSetPositionFf | driveCycle => exact onCascade_illegal (not_lt.mp h) _
  | _ => exact absurd trivial h

/-- A command that ends at once with a result other than Success changes no register (R241). -/
theorem endsUnchanged_failWith (s : State) (r : Result) : EndsUnchanged (failWith r s) s r 0 :=
  ⟨s.respond r 0, rfl, ⟨rfl, rfl⟩, ends_respond rfl fun _ => rfl, ⟨rfl, rfl, rfl, rfl, rfl⟩⟩

/-- Settles O18: each of these forms is illegal, and an illegal command changes nothing. -/
theorem cascadeIndexedCommandsRefuseBadOperands : Obligations.CascadeIndexedCommandsRefuseBadOperands := by
  intro s dev mode b x y z
  have refused {i : Instr} (h : exec i s = illegal s) : EndsUnchanged (exec i s) s .illegalCommand 0 :=
    h ▸ endsUnchanged_failWith s .illegalCommand
  refine ⟨fun h => ?_, fun h => ?_, fun h => refused (execPidConfigure_illegal (.inr (.inr h)) ..),
    fun h => refused (execCasSetMode_illegal (.inr h))⟩
  · have hloop := fun act => onLoop_illegal h act
    simp only [List.forall_mem_cons]
    exact ⟨refused (execPidConfigure_illegal (h.imp_right .inl) ..), refused (hloop _), refused (hloop _), refused (hloop _),
      refused (hloop _), refused (hloop _), refused (hloop _), refused (hloop _), refused (hloop _), nofun⟩
  · intro i hi
    refine refused (exec_illegal_of_not_devBelow ?_)
    fin_cases hi <;> exact not_lt.mpr h

/-! ### Commands that R87 calls legal -/

/-- The command answers a next state whose response is not `IllegalCommand`. -/
def NotIllegal (o : Out) : Prop := ∃ t, o = .next t ∧ ∀ v, t.rsp ≠ some ⟨.illegalCommand, v⟩

namespace NotIllegal

theorem ends {t : State} {r : Result} {v : Word} (h : r ≠ .illegalCommand) : NotIllegal (.next (t.respond r v)) :=
  ⟨_, rfl, fun w he => h (by simpa using congrArg (Option.map Response.res) he)⟩

theorem starts {s : State} (hs : s.rsp = none) (call : Call) (k : Nat) : NotIllegal (start call k s) := by
  unfold start
  obtain ⟨-, he⟩ | ⟨-, he⟩ := sampleBus_cases call 0 k s <;> rw [he]
  · exact ⟨_, rfl, fun v => by simp [hs]⟩
  · exact ends nofun

theorem decodes {s : State} (hs : s.rsp = none) (f : ActuatorRecord → ActuatorRecord) : NotIllegal (decodeInto f s) := by
  obtain ⟨k, -, he⟩ | ⟨-, he⟩ := decodeInto_cases f s <;> rw [he] <;> exact ⟨_, rfl, fun v => by simp [hs]⟩

theorem onDevice {dev : Byte} {s : State} {act : Nat → Out} (h : ∀ k, NotIllegal (act k)) : NotIllegal (onDevice dev s act) := by
  obtain ⟨k, -, he⟩ | ⟨-, he⟩ := onDevice_cases dev s act <;> rw [he]
  · exact h k
  · exact ends nofun

theorem onLoop {dev : Byte} {loop : BitVec 2} {s : State} {act : Loop → Out} (hl : loopOk loop = true)
    (hd : dev.toNat < s.cfg.nDev) (h : ∀ l, NotIllegal (act l)) : NotIllegal (onLoop dev loop s act) := by
  obtain ⟨l, -, -, he⟩ | ⟨hno | hno, -⟩ := onLoop_cases dev loop s act
  · rw [he]; exact h l
  · rw [Loop.ofBits_none.mp hno] at hl; cases hl
  · omega

theorem onCascade {dev : Byte} {s : State} {act : Out} (hd : dev.toNat < s.cfg.nDev) (h : NotIllegal act) :
    NotIllegal (onCascade dev s act) := by
  obtain ⟨-, he⟩ | ⟨hno, -⟩ := onCascade_cases dev s act
  · rw [he]; exact h
  · omega

theorem setOutermost {dev : Byte} {s : State} (hd : dev.toNat < s.cfg.nDev) (mode : OpMode) (l : Loop)
    (f : PidState → PidState) : NotIllegal (setOutermost dev mode l f s) := by
  refine onCascade hd ?_
  split
  · exact ends nofun
  · exact ends nofun

theorem setChecked {s : State} (hs : s.rsp = none) (dev : Byte) (ok : Bool) (call : Call) :
    NotIllegal (setChecked dev ok call s) := by
  refine onDevice fun k => ?_
  split
  · exact starts hs call k
  · exact ends nofun

end NotIllegal

/-- A well-formed instruction with its cascade index in range does not end in `IllegalCommand`. -/
theorem exec_notIllegal {i : Instr} {s : State} (hw : i.wf = true) (hd : DevBelow s.cfg.nDev i) (hs : s.rsp = none) :
    NotIllegal (exec i s) := by
  cases i with
  | pidConfigure dev loop mode kp ki kd =>
    simp only [Instr.wf, Bool.and_eq_true, decide_eq_true_eq] at hw
    obtain ⟨hl, hm⟩ := hw
    simp only [exec, execPidConfigure]
    split
    · next h => have := (PidMode.ofImm_eq_none_iff mode).mp h; omega
    · exact .onLoop hl hd fun _ => .ends nofun
  | pidSetSetpoint | pidSetFeedback | pidSetFeedforward | pidSetGains | pidSetLimits | pidStep | pidOutput | pidClear =>
    exact .onLoop hw hd fun _ => .ends nofun
  | casSetMode dev mode =>
    simp only [Instr.wf, decide_eq_true_eq] at hw
    simp only [exec, execCasSetMode]
    split
    · next h => have := (OpMode.ofImm_eq_none_iff mode).mp h; omega
    · exact .onCascade hd (.ends nofun)
  | casCalculate => exact .onCascade hd (.ends nofun)
  | casSetCurrent | casSetVelocity | casSetPosition | casSetCurrentFf | casSetVelocityFf | casSetPositionFf =>
    exact .setOutermost hd ..
  | q24Encode | q24Decode | t8Encode | t8Decode => exact .ends nofun
  | regFind => exact .onDevice fun _ => .ends nofun
  | regRead dev field =>
    simp only [Instr.wf, decide_eq_true_eq] at hw
    simp only [exec, execRegRead, if_neg (not_lt.mpr hw)]
    exact .onDevice fun _ => .ends nofun
  | actHandshake | actSetMode | actSetPower => exact .onDevice fun k => .starts hs _ k
  | actGet dev kind =>
    simp only [Instr.wf, decide_eq_true_eq] at hw
    simp only [exec, execActGet]
    split
    · next h => have := (getKind_eq_none_iff kind).mp h; omega
    · exact .onDevice fun k => .starts hs _ k
  | actSetLimit dev kind v =>
    simp only [Instr.wf, decide_eq_true_eq] at hw
    simp only [exec, execActSetLimit]
    split
    · next h => have := (limitKind_eq_none_iff kind).mp h; omega
    · exact .onDevice fun k => .starts hs _ k
  | actSend dev dlc a b =>
    simp only [Instr.wf, Bool.and_eq_true, decide_eq_true_eq] at hw
    have hdlc : ¬ (dlc = 0 ∨ 8 < dlc.toNat) := by bv_omega
    simp only [exec, execActSend, if_neg hdlc]
    exact .onDevice fun k => .starts hs _ k
  | actSetCurrent | actSetSpeed | actSetPosition => exact .setChecked hs ..
  | driveCycle => exact .onCascade hd (.starts hs _ _)
  | _ => exact .decodes hs _ -- the frame kinds

/-- A ready core finds a command illegal where one of R87's conditions holds of the word: it does not decode, or its cascade index
is out of range. -/
theorem acceptCommand_illegal {s : State} {cmd : BitVec 128} (hq : s.seq = .ready) (h : illegalWord s.cfg.nDev cmd = true) :
    acceptCommand cmd s = illegal (s.record (.command cmd)) := by
  cases hdec : decodeHost cmd with
  | error e => exact acceptCommand_error hq hdec
  | ok i =>
    have hdev : ¬ DevBelow s.cfg.nDev i := fun hd => by
      cases h.symm.trans ((illegalWord_eq_false_iff _ cmd).mpr ⟨i, hdec, hd⟩)
    rw [acceptCommand_ok hq hdec]
    exact exec_illegal_of_not_devBelow hdev

/-- Settles O7, by what the decoder checks and what the meanings check. -/
theorem commandIsIllegalExactlyWhenR87Says : Obligations.CommandIsIllegalExactlyWhenR87Says := by
  intro s cmd rest hq hi
  refine ⟨fun h => ?_, fun h => ?_⟩
  · rw [step_command hi, acceptCommand_illegal (s := s.begin rest) hq h]
    obtain ⟨t, ht, hreg, ⟨hseq, hshow, -⟩, hcfg, -, hfree, htx, -⟩ :=
      endsUnchanged_failWith ((s.begin rest).record (.command cmd)) .illegalCommand
    exact ⟨t, ht, hseq, hshow, hreg, hfree, htx, hcfg⟩
  · obtain ⟨i, hdec, hdev⟩ := (illegalWord_eq_false_iff _ cmd).mp h
    rw [step_command hi, acceptCommand_ok (s := s.begin rest) hq hdec]
    exact exec_notIllegal (decode_wf (g := s.cfg) (e := .host cmd) hdec) hdev rfl

/-! ### The setters of one loop (R122 to R124) -/

theorem Loop.ofBits_of_mem {b : BitVec 2} {l : Loop} (h : (b, l) ∈ loopRows) : Loop.ofBits b = some l := by
  have rows : ∀ row ∈ loopRows, Loop.ofBits row.1 = some row.2 := by decide
  exact rows _ h

theorem onLoop_of_mem {dev : Byte} {b : BitVec 2} {l : Loop} {s : State} (hb : (b, l) ∈ loopRows)
    (hd : dev.toNat < s.cfg.nDev) (act : Loop → Out) : onLoop dev b s act = act l := by
  simp only [onLoop, Loop.ofBits_of_mem hb, if_pos hd]

/-- A command that writes one loop of an existing cascade and ends in Success with value 0. -/
theorem writesLoop_onLoop {dev : Byte} {b : BitVec 2} {l : Loop} {s : State} (hlen : s.cascades.length = s.cfg.nDev)
    (hd : dev.toNat < s.cfg.nDev) (hb : (b, l) ∈ loopRows) (f : PidState → PidState) :
    WritesLoop (onLoop dev b s (fun l => succeed 0 (s.modLoop dev.toNat l f))) s dev.toNat l (f (s.loop dev.toNat l)) :=
  ⟨(s.modLoop dev.toNat l f).respond .success 0, onLoop_of_mem hb hd _,
    ⟨loop_modLoop_same s _ l f (hlen ▸ hd), fun _ _ h => loop_modLoop_other s f h, fun c => opmode_modLoop s _ c l f, rfl⟩,
    ends_success rfl 0, ⟨rfl, rfl, rfl, rfl, rfl⟩⟩

/-- Settles O13: the three setters are writes to one loop. -/
theorem pidSettersWriteOneRegister : Obligations.PidSettersWriteOneRegister :=
  fun _ _ _ _ _ hlen hd hb => ⟨writesLoop_onLoop hlen hd hb _, writesLoop_onLoop hlen hd hb _, writesLoop_onLoop hlen hd hb _⟩

/-! ### The start of an exchange (R172 `S1`, R200) -/

theorem getKind_of_mem {b : Byte} {kind : FrameKind} (h : (b.toNat, kind) ∈ getRows) : getKind b = some kind := by
  have rows : ∀ row ∈ getRows, getKinds[row.1]? = some row.2 := by decide
  exact rows _ h

theorem limitKind_of_mem {b : Byte} {kind : FrameKind} (h : (b.toNat, kind) ∈ limitRows) : limitKind b = some kind := by
  have rows : ∀ row ∈ limitRows, limitKinds[row.1]? = some row.2 := by decide
  exact rows _ h

theorem inUnit_iff (m : Num) (v : F) : inUnit m v = true ↔ WithinUnit m v := Bool.and_eq_true_iff

theorem inPos_iff (m : Num) (v : F) : inPos m v = true ↔ WithinPos m v := Bool.and_eq_true_iff

theorem onDevice_of_find {dev : Byte} {s : State} {k : Nat} (h : s.find dev.toNat = some k) (act : Nat → Out) :
    onDevice dev s act = act k := by
  simp only [onDevice, h]

theorem setChecked_of_find {dev : Byte} {s : State} {k : Nat} (h : s.find dev.toNat = some k) {ok : Bool} (hok : ok = true)
    (call : Call) : setChecked dev ok call s = start call k s := by
  simp only [setChecked, onDevice_of_find h, hok, if_true]

/-- A call that passes its checks makes `S1` of its first exchange. -/
theorem exec_of_starts {s : State} {i : Instr} {call : Call} {k : Nat} (h : Starts s i call k) : exec i s = start call k s := by
  cases i with
  | actHandshake | actSetMode | actSetPower =>
    obtain ⟨hk, rfl⟩ := h
    exact onDevice_of_find hk _
  | actGet =>
    obtain ⟨hk, fk, hfk, rfl⟩ := h
    simp only [exec, execActGet, getKind_of_mem hfk, onDevice_of_find hk]
  | actSetLimit =>
    obtain ⟨hk, fk, hfk, rfl⟩ := h
    simp only [exec, execActSetLimit, limitKind_of_mem hfk, onDevice_of_find hk]
  | actSetCurrent | actSetSpeed =>
    obtain ⟨hk, hv, rfl⟩ := h
    exact setChecked_of_find hk ((inUnit_iff _ _).mpr hv) _
  | actSetPosition =>
    obtain ⟨hk, hv, rfl⟩ := h
    exact setChecked_of_find hk ((inPos_iff _ _).mpr hv) _
  | actSend dev dlc =>
    obtain ⟨hk, hlo, hhi, rfl⟩ := h
    have hdlc : ¬ (dlc = 0 ∨ 8 < dlc.toNat) := by bv_omega
    simp only [exec, execActSend, if_neg hdlc, onDevice_of_find hk]
  | driveCycle =>
    obtain ⟨rfl, hd, rfl⟩ := h
    exact if_pos hd
  | _ => exact h.elim

/-- `S1` with the bus free asks the bus and goes on to `S2` (R172). -/
theorem sampleBus_free {s : State} (h : s.busFreeAnswer = true) (call : Call) (x k : Nat) :
    sampleBus call x k s = s.askBusFree.goTo call x .s2 k 0 := if_pos h

/-- The executor at `S1` samples the bus, whoever else is waiting to move. -/
theorem step_s1 {s : State} {call : Call} {x k n : Nat} {rest : List Input} (hat : At s call x .s1 k n)
    (hm : ExecutorMoves s rest) : step s = .next (sampleBus call x k (s.begin rest)) := by
  have hq : (s.begin rest).seq = .busy call x .s1 k n := hat
  rw [step_of_executorMoves hm]
  simp only [executorStep, hq]

/-- Settles O34: a call's checks lead to `S1`, and so does a later exchange; with the bus free `S1` goes on. -/
theorem protocolCallsStartTheirExchange : Obligations.ProtocolCallsStartTheirExchange := by
  refine ⟨fun s i call k hst hfree => ?_, fun s call x k n rest hat hm hfree => ?_⟩
  · rw [exec_of_starts hst, start, sampleBus_free hfree]
    exact ⟨_, rfl, rfl, ⟨rfl, rfl⟩, by simp [hfree], rfl, rfl, rfl, rfl, rfl, rfl⟩
  · rw [step_s1 hat hm, sampleBus_free hfree]
    exact ⟨_, rfl, rfl, ⟨rfl, rfl⟩, by simp [hfree], rfl, rfl, rfl, rfl, rfl⟩

end Sys2Proof.Machine
end

section
/-! PROOFS. What each step adds to the event history, and the statement of the family 30_encoding.md about transmitted frames. -/

namespace Sys2Proof.Machine

open Sys2Proof.Spec

/-! ### The length of a built frame (R88, R92) -/

theorem buildFrame_length (c : Cfg) (draw : Word) (kind : FrameKind) (p : Payload) :
    1 ≤ (buildFrame c draw kind p).length ∧ (buildFrame c draw kind p).length ≤ 8 := by
  cases p <;> simp [buildFrame]

/-- The frame of a call in progress has one to eight bytes: `act.send` has checked its length, and the others build theirs. -/
theorem frameBytes_length {s : State} {call : Call} {x k : Nat} (h : s.callOk call x k) :
    1 ≤ (frameBytes s call x k).length ∧ (frameBytes s call x k).length ≤ 8 := by
  cases call with
  | send dlc d =>
    obtain ⟨hlo, hhi⟩ := h
    simp only [frameBytes, Bytes8.toList, List.length_take, List.length_cons, List.length_nil]
    omega
  | _ =>
    simp only [frameBytes]
    exact buildFrame_length ..

theorem devId_mem {s : State} {k : Nat} (h : k < s.cfg.nDev) : s.devId k ∈ s.cfg.devId := by
  have hk : k < s.cfg.devId.length := h
  simp [State.devId, List.getD_eq_getElem?_getD, hk]

/-! ### What is added to the history (R70) -/

/-- What an event may carry: a transmitted frame is addressed to the registry and has one to eight bytes (R88, R94). -/
def Event.FrameOk (c : Cfg) : Event → Prop
  | .busTx fr _ => fr.id ∈ c.devId ∧ 1 ≤ fr.data.length ∧ fr.data.length ≤ 8
  | _ => True

/-- The new history is the old one with events at its head whose frames are in order. -/
def Extends (c : Cfg) (old new : List Event) : Prop := ∃ events, new = events ++ old ∧ ∀ e ∈ events, e.FrameOk c

namespace Extends

variable {c : Cfg} {old new : List Event}

theorem refl (c : Cfg) (old : List Event) : Extends c old old := ⟨[], rfl, nofun⟩

theorem cons (h : Extends c old new) {e : Event} (he : e.FrameOk c) : Extends c old (e :: new) := by
  obtain ⟨events, rfl, hall⟩ := h
  exact ⟨e :: events, rfl, List.forall_mem_cons.mpr ⟨he, hall⟩⟩

theorem respond {s : State} (h : Extends c old s.history) (r : Result) (v : Word) : Extends c old (s.respond r v).history :=
  h.cons trivial

theorem sampleBus {s : State} (h : Extends c old s.history) (call : Call) (x k : Nat) :
    Extends c old (sampleBus call x k s).history := by
  have hask : Extends c old s.askBusFree.history := h.cons trivial
  obtain ⟨-, he⟩ | ⟨-, he⟩ := sampleBus_cases call x k s <;> rw [he]
  · exact hask
  · exact hask.respond ..

/-- `S3` adds its frame, and the result where the bus does not take it. -/
theorem transmitStep {s : State} (h : Extends s.cfg old s.history) {call : Call} {x k : Nat} (hk : k < s.cfg.nDev)
    (hc : s.callOk call x k) : Extends s.cfg old (transmitStep call x k s).history := by
  have hsent : Extends s.cfg old (s.handToBus ⟨s.devId k, frameBytes s call x k⟩).history :=
    h.cons ⟨devId_mem hk, frameBytes_length hc⟩
  unfold Machine.transmitStep
  dsimp only
  split
  · exact hsent
  · exact hsent.respond ..

theorem driveCascade {s : State} (h : Extends c old s.history) (k : Nat) : Extends c old (driveCascade k s).history := by
  unfold Machine.driveCascade
  dsimp only
  split
  · exact h
  · exact respond (s := s.modCascade k _) h ..

theorem afterSuccess {s : State} (h : Extends c old s.history) (call : Call) (x k : Nat) :
    Extends c old (afterSuccess call x k s).history := by
  cases call with
  | setMode | setPower =>
    simp only [Machine.afterSuccess]
    split
    · exact h
    · split <;> exact h.respond ..
  | driveCycle =>
    simp only [Machine.afterSuccess]
    split
    · exact h
    · split
      · exact h.driveCascade k
      · exact h.respond ..
  | _ => exact h.respond ..

theorem settleStep {s : State} (h : Extends c old s.history) (call : Call) (x k : Nat) :
    Extends c old (settleStep call x k s).history := by
  have hmod : Extends c old (s.modDev k (settle s.cfg)).history := h
  obtain ⟨-, he⟩ | ⟨-, he⟩ | ⟨-, he⟩ := settleStep_cases call x k s <;> rw [he]
  · exact hmod.afterSuccess call x k
  · exact hmod.respond ..
  · exact hmod.respond ..

end Extends

@[simp] theorem pollStep_history (call : Call) (x k n : Nat) (s : State) : (pollStep call x k n s).history = s.history := by
  obtain ⟨-, he⟩ | ⟨-, -, he⟩ | ⟨-, -, he⟩ := pollStep_cases call x k n s <;> simp [he]

/-- The executor's frames are in order, since the exchange in progress addresses the registry with checked operands. -/
theorem ExecutorShape.history_extends {s t : State} (h : ExecutorShape s t) (hs : s.seqOk) : Extends s.cfg s.history t.history := by
  have hrefl := Extends.refl s.cfg s.history
  cases h with
  | idle | clear | decode => exact hrefl
  | sample => exact hrefl.sampleBus ..
  | transmit hq =>
    simp only [State.seqOk, hq] at hs
    obtain ⟨hk, -, -, -, hcall⟩ := hs
    exact hrefl.transmitStep hk hcall
  | poll => rw [pollStep_history]; exact hrefl
  | settle => exact hrefl.settleStep ..
  | exhaust => exact hrefl.cons trivial

/-- The meaning of an instruction transmits nothing: it ends the command, or samples the bus, or decodes. -/
theorem ExecShape.history_extends {s t : State} {o : Out} (h : ExecShape s o) (ho : o = .next t) {c : Cfg} {old : List Event}
    (hs : Extends c old s.history) : Extends c old t.history := by
  cases h with
  | ends r v => cases ho; exact hs.respond r v
  | writes k f v => cases ho; exact Extends.respond (s := s.modCascade k f) hs ..
  | starts call k => cases ho; exact hs.sampleBus call 0 k
  | decodes f => obtain ⟨k, -, he⟩ | ⟨-, he⟩ := decodeInto_cases f s <;> cases he.symm.trans ho <;> exact hs

theorem acceptCommand_extends {cmd : BitVec 128} {s t : State} (h : acceptCommand cmd s = .next t) :
    Extends s.cfg s.history t.history := by
  have hcmd : Extends s.cfg s.history (s.record (.command cmd)).history := (Extends.refl _ _).cons trivial
  obtain ⟨-, he⟩ | ⟨-, i, -, he⟩ | ⟨-, -, he⟩ := acceptCommand_cases cmd s <;> rw [he] at h
  · cases h; exact .refl ..
  · exact (exec_shape i _).history_extends h hcmd
  · cases h; exact hcmd.respond ..

theorem notify_extends {a : Arrival} {s t : State} (h : notify a s = .next t) : Extends s.cfg s.history t.history := by
  obtain ⟨-, he⟩ | ⟨-, -, he⟩ | ⟨-, k, -, he⟩ := notify_cases a s <;> rw [he] at h <;> cases h
  · exact (Extends.refl _ _).cons trivial
  · exact (Extends.refl _ _).cons trivial

/-- Every step from a state whose sequencer is in order only adds to the history, and its frames are in order. -/
theorem step_extends {s t : State} (h : step s = .next t) (hs : s.seqOk) : Extends s.cfg s.history t.history := by
  cases step_shape h with
  | @executor rest _ hi he => exact he.history_extends (s := s.begin rest) hs
  | @command cmd rest _ hi he => exact acceptCommand_extends (s := s.begin rest) he
  | @arrival a rest _ hi he => exact notify_extends (s := s.begin rest) he
  | reset hi => exact (Extends.refl _ _).cons trivial

/-- Settles O60: every event that a step adds has its frame in order, a transmission among them. -/
theorem transmittedFramesAreWellFormed : Obligations.TransmittedFramesAreWellFormed := by
  intro s t hinv h
  obtain ⟨events, hnew, hall⟩ := step_extends h hinv.seq
  exact ⟨events, hnew, fun fr ok hmem => hall _ hmem⟩

end Sys2Proof.Machine
end

section
/-! PROOFS. The rules of binary32 (00_scope.md R13): the value of a word, rounding to nearest, and the integer, quotient,
truncation and comparison operations of Machine/Float.lean in terms of values. -/

namespace Sys2Proof.Machine.F32

/-! ### Magnitudes and the units they stand for -/

/-- `units` as a function of the 31 magnitude bits alone. -/
def magUnits (m : Nat) : Nat :=
  if m < 2 ^ 23 then m else (2 ^ 23 + m % 2 ^ 23) * 2 ^ (m / 2 ^ 23 - 1)

theorem units_eq_magUnits (a : F) : units a = magUnits (mag a) := rfl

/-- The magnitude bits of exponent `k` and significand `q` stand for `q * 2^k` units; a significand that was rounded up to `2^24`
carries into the exponent. -/
theorem magUnits_add {k q : Nat} (hq : q ≤ 2 ^ 24) (hk : k = 0 ∨ 2 ^ 23 ≤ q) : magUnits (k * 2 ^ 23 + q) = q * 2 ^ k := by
  unfold magUnits
  obtain hlt | hge := lt_or_ge q (2 ^ 23)
  · obtain rfl : k = 0 := by omega
    rw [Nat.zero_mul, Nat.zero_add, if_pos hlt, pow_zero, mul_one]
  · rw [if_neg (by omega)]
    obtain hlt | rfl : q < 2 ^ 24 ∨ q = 2 ^ 24 := by omega
    · have hmod : (k * 2 ^ 23 + q) % 2 ^ 23 = q - 2 ^ 23 := by omega
      have hdiv : (k * 2 ^ 23 + q) / 2 ^ 23 - 1 = k := by omega
      rw [hmod, hdiv, Nat.add_sub_cancel' hge]
    · have hmod : (k * 2 ^ 23 + 2 ^ 24) % 2 ^ 23 = 0 := by omega
      have hdiv : (k * 2 ^ 23 + 2 ^ 24) / 2 ^ 23 - 1 = k + 1 := by omega
      rw [hmod, hdiv]
      ring

/-- Every magnitude is an exponent and a significand of at most 24 bits. -/
theorem exists_exponent_significand (m : Nat) : ∃ k q, m = k * 2 ^ 23 + q ∧ q < 2 ^ 24 ∧ (k = 0 ∨ 2 ^ 23 ≤ q) :=
  ⟨m / 2 ^ 23 - 1, m - (m / 2 ^ 23 - 1) * 2 ^ 23, by omega, by omega, by omega⟩

theorem exists_magUnits_eq (m : Nat) : ∃ q k, q < 2 ^ 24 ∧ magUnits m = q * 2 ^ k := by
  obtain ⟨k, q, rfl, hq, hk⟩ := exists_exponent_significand m
  exact ⟨q, k, hq, magUnits_add hq.le hk⟩

theorem magUnits_strictMono : StrictMono magUnits := by
  refine strictMono_nat_of_lt_succ fun m => ?_
  obtain ⟨k, q, rfl, hq, hk⟩ := exists_exponent_significand m
  rw [add_assoc, magUnits_add hq.le hk, magUnits_add hq (by omega)]
  exact Nat.mul_lt_mul_of_pos_right q.lt_succ_self (by positivity)

@[simp] theorem magUnits_zero : magUnits 0 = 0 := rfl

/-! ### The value of a word -/

theorem isFinite_iff (a : F) : isFinite a = true ↔ mag a < infMag := by
  simp only [isFinite, isNaN, isInf, Bool.and_eq_true, Bool.not_eq_true', decide_eq_false_iff_not]
  omega

theorem abs_toInt (a : F) : |toInt a| = units a := by
  unfold toInt
  split <;> simp

theorem abs_value (a : F) : |value a| = (units a : ℚ) / 2 ^ 149 := by
  rw [value, abs_div, ← Int.cast_abs, abs_toInt, abs_of_pos (by positivity : (0 : ℚ) < 2 ^ 149), Int.cast_natCast]

/-- The sign that a sign bit stands for. -/
def signFactor (sign : Bool) : ℚ := if sign then -1 else 1

@[simp] theorem abs_signFactor (sign : Bool) : |signFactor sign| = 1 := by cases sign <;> simp [signFactor]

theorem signFactor_bne (x y : Bool) : signFactor (x != y) = signFactor x / signFactor y := by
  cases x <;> cases y <;> simp [signFactor]

theorem signFactor_mul_abs (n : Int) : signFactor (decide (n < 0)) * |(n : ℚ)| = n := by
  obtain h | h := lt_or_ge n 0
  · rw [abs_of_neg (by exact_mod_cast h)]
    simp [signFactor, h]
  · rw [abs_of_nonneg (by exact_mod_cast h)]
    simp [signFactor, h.not_gt]

theorem value_eq_sign_mul (a : F) : value a = signFactor (neg a) * ((units a : ℚ) / 2 ^ 149) := by
  unfold value toInt signFactor
  split <;> push_cast <;> ring

/-- Every word stands for an integer of at most 24 bits times a power of two of units. -/
theorem exists_value_eq (a : F) : ∃ (m : Int) (k : Nat), |m| < 2 ^ 24 ∧ value a = m * 2 ^ k / 2 ^ 149 := by
  obtain ⟨q, k, hq, hu⟩ := exists_magUnits_eq (mag a)
  refine ⟨if neg a then -q else q, k, ?_, ?_⟩
  · split <;> simp <;> omega
  · rw [value_eq_sign_mul, units_eq_magUnits, hu]
    unfold signFactor
    split <;> push_cast <;> ring

theorem mag_pack (sign : Bool) {m : Nat} (h : m < 2 ^ 31) : mag (pack sign m) = m := by
  simp only [mag, pack, BitVec.toNat_ofNat]
  cases sign <;> simp <;> omega

theorem neg_pack (sign : Bool) {m : Nat} (h : m < 2 ^ 31) : neg (pack sign m) = sign := by
  simp only [neg, pack, BitVec.msb_eq_decide, BitVec.toNat_ofNat]
  cases sign <;> simp <;> omega

/-! ### Rounding to nearest -/

/-- `divNearest` is at most a half away from the quotient. -/
theorem abs_divNearest_sub_le_half (num : Nat) {den : Nat} (hden : 0 < den) :
    |(divNearest num den : ℚ) - num / den| ≤ 1 / 2 := by
  have hpos : (0 : ℚ) < den := by exact_mod_cast hden
  have hsplit : (num : ℚ) = den * (num / den : ℕ) + (num % den : ℕ) := by exact_mod_cast (Nat.div_add_mod num den).symm
  have hquot : (num : ℚ) / den = (num / den : ℕ) + (num % den : ℕ) / den := by rw [hsplit]; field_simp
  have hrem : ((num % den : ℕ) : ℚ) ≤ den := by exact_mod_cast (Nat.mod_lt num hden).le
  rw [hquot, abs_le]
  unfold divNearest
  dsimp only
  split
  · next hup =>
    have hhalf : (1 : ℚ) / 2 ≤ (num % den : ℕ) / den := by
      rw [div_le_div_iff₀ two_pos hpos, one_mul, mul_comm]
      exact_mod_cast (by omega : den ≤ 2 * (num % den))
    have hone := div_le_one_of_le₀ hrem hpos.le
    push_cast at *
    constructor <;> linarith
  · next hdown =>
    have hhalf : ((num % den : ℕ) : ℚ) / den ≤ 1 / 2 := by
      rw [div_le_div_iff₀ hpos two_pos, one_mul, mul_comm]
      exact_mod_cast (by omega : 2 * (num % den) ≤ den)
    have hzero : (0 : ℚ) ≤ (num % den : ℕ) / den := by positivity
    constructor <;> linarith

/-- So no integer is nearer to the quotient. -/
theorem abs_divNearest_sub_le (num : Nat) {den : Nat} (hden : 0 < den) (z : Int) :
    |(divNearest num den : ℚ) - num / den| ≤ |(z : ℚ) - num / den| := by
  have hhalf := abs_divNearest_sub_le_half num hden
  obtain rfl | hne := eq_or_ne z (divNearest num den)
  · simp
  · have hone : (1 : ℚ) ≤ |(z : ℚ) - divNearest num den| := by
      exact_mod_cast Int.one_le_abs (sub_ne_zero.mpr hne)
    have htri := abs_sub_le (z : ℚ) (num / den) (divNearest num den)
    rw [abs_sub_comm ((num : ℚ) / den)] at htri
    linarith

/-- The exponent that `roundMag` takes leaves a quotient of at most 24 bits, and of 24 bits unless the exponent is 0. -/
theorem quotient_bounds (num den : Nat) :
    num / den / 2 ^ (Nat.log2 (num / den) - 23) < 2 ^ 24 ∧
    (Nat.log2 (num / den) - 23 = 0 ∨ 2 ^ 23 ≤ num / den / 2 ^ (Nat.log2 (num / den) - 23)) := by
  generalize num / den = q
  constructor
  · rw [Nat.div_lt_iff_lt_mul (by positivity), ← pow_add]
    exact Nat.lt_log2_self.trans_le (Nat.pow_le_pow_right two_pos (by omega))
  · obtain h | h := Nat.eq_zero_or_pos (q.log2 - 23)
    · exact .inl h
    · refine .inr ?_
      rw [Nat.le_div_iff_mul_le (by positivity), ← pow_add, Nat.add_sub_cancel' (by omega)]
      exact Nat.log2_self_le (by rintro rfl; simp at h)

theorem divNearest_bounds (num den : Nat) : num / den ≤ divNearest num den ∧ divNearest num den ≤ num / den + 1 := by
  unfold divNearest
  dsimp only
  split <;> omega

/-- A finite result has an exponent `k` and a significand, which is the quotient by `2^k`, rounded. -/
theorem exists_magUnits_roundMag_eq {num den : Nat} (hden : 0 < den) (h : roundMag num den < infMag) : ∃ k,
    magUnits (roundMag num den) = divNearest num (den * 2 ^ k) * 2 ^ k ∧ (k = 0 ∨ 2 ^ 23 * (den * 2 ^ k) ≤ num) := by
  obtain ⟨hlt, hge⟩ := quotient_bounds num den
  refine ⟨Nat.log2 (num / den) - 23, ?_⟩
  unfold roundMag at h ⊢
  dsimp only at h ⊢
  generalize Nat.log2 (num / den) - 23 = k at *
  rw [Nat.div_div_eq_div_mul] at hlt hge
  obtain ⟨hlo, hhi⟩ := divNearest_bounds num (den * 2 ^ k)
  have hmin := (min_lt_iff.mp h).resolve_left (lt_irrefl _)
  rw [show Nat.min infMag _ = _ from Nat.min_eq_right hmin.le]
  exact ⟨magUnits_add (by omega) (by omega), hge.imp_right (Nat.le_div_iff_mul_le (by positivity)).mp⟩

/-- A quotient that stands for a value below `2^100` is far from being rounded to infinity. -/
theorem roundMag_lt_infMag {num den : Nat} (hden : 0 < den) (h : num < 2 ^ 249 * den) : roundMag num den < infMag := by
  have hlog : Nat.log2 (num / den) < 249 := by
    obtain h0 | h0 := eq_or_ne (num / den) 0
    · simp [h0]
    · exact (Nat.log2_lt h0).mpr ((Nat.div_lt_iff_lt_mul hden).mpr h)
  obtain ⟨hlt, -⟩ := quotient_bounds num den
  unfold roundMag
  dsimp only
  have hk : Nat.log2 (num / den) - 23 < 226 := by omega
  generalize Nat.log2 (num / den) - 23 = k at *
  rw [Nat.div_div_eq_div_mul] at hlt
  obtain ⟨-, hhi⟩ := divNearest_bounds num (den * 2 ^ k)
  refine min_lt_of_right_lt ?_
  unfold infMag
  omega

/-- Scaled by `2^k`, a rounded quotient by `2^k` is no farther from the quotient than any other multiple of `2^k`. -/
theorem abs_divNearest_mul_sub_le (num : Nat) {den : Nat} (hden : 0 < den) (k : Nat) (z : Int) :
    |(divNearest num (den * 2 ^ k) * 2 ^ k : ℚ) - num / den| ≤ |(z : ℚ) * 2 ^ k - num / den| := by
  have hscale (y : ℚ) : |y * 2 ^ k - num / den| = |y - num / (den * 2 ^ k : ℕ)| * 2 ^ k := by
    have hpos : (0 : ℚ) < 2 ^ k := by positivity
    rw [← abs_of_pos hpos, ← abs_mul, abs_of_pos hpos]
    congr 1
    push_cast
    field_simp
  rw [hscale, hscale]
  exact mul_le_mul_of_nonneg_right (abs_divNearest_sub_le num (by positivity) z) (by positivity)

/-- `roundMag` answers the magnitude of a number nearest to the quotient: nothing of 24 bits, times a power of two, is nearer. -/
theorem abs_roundMag_sub_le {num den : Nat} (hden : 0 < den) (h : roundMag num den < infMag) {m : Nat} (hm : m < 2 ^ 24)
    (j : Nat) : |(magUnits (roundMag num den) : ℚ) - num / den| ≤ |(m : ℚ) * 2 ^ j - num / den| := by
  obtain ⟨k, hunits, hbig⟩ := exists_magUnits_roundMag_eq hden h
  have hmultiple := abs_divNearest_mul_sub_le num hden k
  rw [hunits, Nat.cast_mul, Nat.cast_pow, Nat.cast_ofNat]
  obtain hle | hlt := le_or_gt k j
  · have hz := hmultiple (m * 2 ^ (j - k))
    push_cast at hz
    rwa [mul_assoc, ← pow_add, Nat.sub_add_cancel hle] at hz
  · -- A smaller exponent leaves `m * 2^j` below `2^23 * 2^k`, which is below the quotient.
    have hquot : (2 ^ 23 : ℚ) * 2 ^ k ≤ num / den := by
      rw [le_div_iff₀ (by exact_mod_cast hden)]
      exact_mod_cast (by have := hbig.resolve_left (by omega); linarith : 2 ^ 23 * 2 ^ k * den ≤ num)
    have hbelow : (m : ℚ) * 2 ^ j ≤ 2 ^ 23 * 2 ^ k := by
      have hpow : 2 ^ 24 * 2 ^ j ≤ 2 ^ 23 * 2 ^ k := by
        rw [← pow_add, ← pow_add]
        exact Nat.pow_le_pow_right two_pos (by omega)
      exact_mod_cast (Nat.mul_le_mul_right _ hm.le).trans hpow
    have hz := hmultiple (2 ^ 23)
    rw [Int.cast_pow, Int.cast_ofNat, abs_of_nonpos (by linarith : (2 ^ 23 : ℚ) * 2 ^ k - num / den ≤ 0)] at hz
    rw [abs_of_nonpos (by linarith : (m : ℚ) * 2 ^ j - num / den ≤ 0)]
    linarith

/-- `v` is a finite number that is nearest to `x`, among all numbers of 24 bits with an exponent not below the least one: what R13 asks
of an operation whose exact result is `x`, up to the choice between two nearest. -/
structure RoundsTo (x : ℚ) (v : F) : Prop where
  finite : isFinite v = true
  closest : ∀ (m : Int) (k : Nat), |m| < 2 ^ 24 → |value v - x| ≤ |(m : ℚ) * 2 ^ k / 2 ^ 149 - x|

namespace RoundsTo

variable {x : ℚ} {v : F}

/-- No finite number is nearer. -/
theorem nearest (h : RoundsTo x v) (u : F) : |value v - x| ≤ |value u - x| := by
  obtain ⟨m, k, hm, hu⟩ := exists_value_eq u
  rw [hu]
  exact h.closest m k hm

/-- A representable number is rounded to itself. -/
theorem eq_of_representable (h : RoundsTo x v) {m : Int} {k : Nat} (hm : |m| < 2 ^ 24) (hx : x = m * 2 ^ k / 2 ^ 149) :
    value v = x := by
  have hle := h.closest m k hm
  rw [← hx, sub_self, abs_zero] at hle
  exact sub_eq_zero.mp (abs_nonpos_iff.mp hle)

end RoundsTo

theorem value_pack (sign : Bool) {m : Nat} (h : m < 2 ^ 31) :
    value (pack sign m) = signFactor sign * ((magUnits m : ℚ) / 2 ^ 149) := by
  rw [value_eq_sign_mul, units_eq_magUnits, mag_pack sign h, neg_pack sign h]

theorem abs_div_two_pow_sub (x y : ℚ) (n : Nat) : |x / 2 ^ n - y / 2 ^ n| = |x - y| / 2 ^ n := by
  rw [← sub_div, abs_div, abs_of_pos (by positivity : (0 : ℚ) < 2 ^ n)]

/-- `round` rounds the quotient of units, with its sign. -/
theorem round_roundsTo (sign : Bool) {num den : Nat} (hden : 0 < den) (h : roundMag num den < infMag) :
    RoundsTo (signFactor sign * (num / den / 2 ^ 149)) (round sign num den) := by
  have hmag : roundMag num den < 2 ^ 31 := h.trans (by decide)
  refine ⟨(isFinite_iff _).mpr ((mag_pack sign hmag).symm ▸ h), fun m k hm => ?_⟩
  have hnat : m.natAbs < 2 ^ 24 := by rwa [Int.abs_eq_natAbs, ← Nat.cast_ofNat, ← Nat.cast_pow, Nat.cast_lt] at hm
  -- A number of the other sign is no nearer than its absolute value is to the magnitude.
  have habs : |(m : ℚ) * 2 ^ k / 2 ^ 149| = (m.natAbs : ℚ) * 2 ^ k / 2 ^ 149 := by
    rw [abs_div, abs_mul, Nat.cast_natAbs, Int.cast_abs, abs_of_pos (by positivity : (0 : ℚ) < 2 ^ k),
      abs_of_pos (by positivity : (0 : ℚ) < 2 ^ 149)]
  have htri := abs_abs_sub_abs_le ((m : ℚ) * 2 ^ k / 2 ^ 149) (signFactor sign * (num / den / 2 ^ 149))
  rw [habs, abs_mul, abs_signFactor, one_mul, abs_of_nonneg (by positivity : (0 : ℚ) ≤ num / den / 2 ^ 149),
    abs_div_two_pow_sub] at htri
  refine le_trans ?_ htri
  rw [round, value_pack sign hmag, ← mul_sub, abs_mul, abs_signFactor, one_mul, abs_div_two_pow_sub]
  exact div_le_div_of_nonneg_right (abs_roundMag_sub_le hden h hnat k) (by positivity)

/-! ### The operations of R13 -/

/-- `i2f` rounds its integer. -/
theorem ofInt_roundsTo {n : Int} (h : |n| < 2 ^ 100) : RoundsTo n (ofInt n) := by
  have hnum : n.natAbs * 2 ^ 149 < 2 ^ 249 * 1 := by
    rw [Int.abs_eq_natAbs] at h
    omega
  have hround := round_roundsTo (decide (n < 0)) one_pos (roundMag_lt_infMag one_pos hnum)
  rwa [Nat.cast_mul, Nat.cast_one, div_one, Nat.cast_pow, Nat.cast_ofNat, mul_div_cancel_right₀ _ (by positivity),
    Nat.cast_natAbs, Int.cast_abs, signFactor_mul_abs] at hround

/-- `i2f` is exact on an integer of at most 24 significant bits. -/
theorem value_ofInt_mul_pow {m : Int} {j : Nat} (hm : |m| < 2 ^ 24) (h : |m * 2 ^ j| < 2 ^ 100) :
    value (ofInt (m * 2 ^ j)) = m * 2 ^ j := by
  have hgrid : ((m * 2 ^ j : Int) : ℚ) = m * 2 ^ (j + 149) / 2 ^ 149 := by
    rw [pow_add, ← mul_assoc, mul_div_cancel_right₀ _ (by positivity)]
    push_cast
    rfl
  rw [(ofInt_roundsTo h).eq_of_representable hm hgrid]
  push_cast
  rfl

theorem value_ofInt {n : Int} (h : |n| < 2 ^ 24) : value (ofInt n) = n := by
  have hexact := value_ofInt_mul_pow (j := 0) h (by rw [pow_zero, mul_one]; omega)
  rwa [pow_zero, mul_one, pow_zero, mul_one] at hexact

theorem isFinite_ofInt {n : Int} (h : |n| < 2 ^ 100) : isFinite (ofInt n) = true := (ofInt_roundsTo h).finite

/-- The powers of two up to `2^99` are finite and exact. -/
theorem ofInt_two_pow {j : Nat} (hj : j ≤ 99) : isFinite (ofInt (2 ^ j)) = true ∧ value (ofInt (2 ^ j)) = 2 ^ j := by
  have hrange : |(2 : Int) ^ j| < 2 ^ 100 := by
    rw [abs_of_pos (by positivity)]
    exact pow_lt_pow_right₀ one_lt_two (by omega)
  have hval := value_ofInt_mul_pow (m := 1) (by norm_num) (by rwa [one_mul])
  rw [one_mul, Int.cast_one, one_mul] at hval
  exact ⟨isFinite_ofInt hrange, hval⟩

theorem units_pos {a : F} (h : value a ≠ 0) : 0 < units a := by
  refine Nat.pos_of_ne_zero fun h0 => h ?_
  rw [value_eq_sign_mul, h0]
  simp

/-- `fdiv` of finite numbers rounds the quotient. -/
theorem div?_roundsTo {a b : F} (ha : isFinite a = true) (hb : isFinite b = true) (hb0 : value b ≠ 0)
    (h : |value a / value b| < 2 ^ 100) : ∃ v, div? a b = some v ∧ RoundsTo (value a / value b) v := by
  have hden := units_pos hb0
  have hpos : (0 : ℚ) < units b := by exact_mod_cast hden
  have hquot : signFactor (neg a != neg b) * ((units a * 2 ^ 149 : ℕ) / units b / 2 ^ 149) = value a / value b := by
    rw [signFactor_bne, value_eq_sign_mul a, value_eq_sign_mul b, Nat.cast_mul, Nat.cast_pow, Nat.cast_ofNat]
    field_simp
  have hnum : units a * 2 ^ 149 < 2 ^ 249 * units b := by
    rw [abs_div, abs_value, abs_value, div_div_div_cancel_right₀ (by positivity), div_lt_iff₀ hpos] at h
    have h' : units a < 2 ^ 100 * units b := by exact_mod_cast h
    omega
  have hround := round_roundsTo (neg a != neg b) hden (roundMag_lt_infMag hden hnum)
  rw [hquot] at hround
  have hzero : isZero b = false := by
    simp only [isZero, decide_eq_false_iff_not]
    intro h0
    rw [units_eq_magUnits, h0] at hden
    exact lt_irrefl _ hden
  simp only [isFinite, Bool.and_eq_true, Bool.not_eq_true'] at ha hb
  exact ⟨_, by simp [div?, ha, hb, hzero], hround⟩

/-! ### Dividing an integer by a power of two -/

/-- The rounding of an integer is at most twice as large, since zero is no nearer. -/
theorem abs_value_ofInt_le {n : Int} (h : |n| < 2 ^ 100) : |value (ofInt n)| ≤ 2 * |(n : ℚ)| := by
  have hnear := (ofInt_roundsTo h).closest 0 0 (by norm_num)
  rw [Int.cast_zero, zero_mul, zero_div, zero_sub, abs_neg] at hnear
  have htri := abs_sub_abs_le_abs_sub (value (ofInt n)) n
  linarith

/-- The rounding of an integer other than zero does not fall below one, since one is representable. -/
theorem one_le_abs_value_ofInt {n : Int} (h : |n| < 2 ^ 100) (h0 : n ≠ 0) : 1 ≤ |value (ofInt n)| := by
  obtain hneg | hpos := lt_or_gt_of_ne h0
  · have hle : (n : ℚ) ≤ -1 := by exact_mod_cast Int.le_sub_one_of_lt hneg
    have hnear := (ofInt_roundsTo h).closest (-1) 149 (by norm_num)
    rw [mul_div_cancel_right₀ _ (by positivity), Int.cast_neg, Int.cast_one, abs_of_nonneg (by linarith : (0 : ℚ) ≤ -1 - n),
      abs_le] at hnear
    exact le_abs.mpr (.inr (by linarith))
  · have hle : (1 : ℚ) ≤ n := by exact_mod_cast hpos
    have hnear := (ofInt_roundsTo h).closest 1 149 (by norm_num)
    rw [mul_div_cancel_right₀ _ (by positivity), Int.cast_one, abs_of_nonpos (by linarith : (1 : ℚ) - n ≤ 0), abs_le] at hnear
    exact le_abs.mpr (.inl (by linarith))

theorem mul_two_pow_div_of_le (x : ℚ) {k n : Nat} (h : n ≤ k) : x * 2 ^ k / 2 ^ n = x * 2 ^ (k - n) := by
  rw [div_eq_iff (by positivity), mul_assoc, ← pow_add, Nat.sub_add_cancel h]

theorem mul_two_pow_div_of_ge (x : ℚ) {k n : Nat} (h : k ≤ n) : x * 2 ^ k / 2 ^ n = x / 2 ^ (n - k) := by
  rw [div_eq_div_iff (by positivity) (by positivity), mul_assoc, ← pow_add, Nat.add_sub_cancel' h]

/-- A number of at least one stays representable when its exponent is lowered. -/
theorem exists_value_div_eq {a : F} (h : value a = 0 ∨ 1 ≤ |value a|) {j : Nat} (hj : j ≤ 125) :
    ∃ (m : Int) (k : Nat), |m| < 2 ^ 24 ∧ value a / 2 ^ j = m * 2 ^ k / 2 ^ 149 := by
  obtain ⟨m, k, hm, ha⟩ := exists_value_eq a
  obtain h0 | h1 := h
  · exact ⟨0, 0, by norm_num, by simp [h0]⟩
  · have hk : j ≤ k := by
      by_contra hlt
      have hm' : |(m : ℚ)| < 2 ^ 24 := by exact_mod_cast hm
      rw [ha, mul_two_pow_div_of_ge _ (by omega), abs_div, abs_of_pos (by positivity : (0 : ℚ) < 2 ^ (149 - k)),
        le_div_iff₀ (by positivity), one_mul] at h1
      have hpow : (2 : ℚ) ^ 24 ≤ 2 ^ (149 - k) := pow_le_pow_right₀ one_le_two (by omega)
      linarith
    refine ⟨m, k - j, hm, ?_⟩
    rw [ha, div_right_comm, mul_two_pow_div_of_le _ hk]

/-- The division of a rounded integer by a power of two is exact. -/
theorem div?_ofInt_exact {n : Int} (hn : |n| < 2 ^ 99) {j : Nat} (hj : j ≤ 99) : ∃ v,
    div? (ofInt n) (ofInt (2 ^ j)) = some v ∧ isFinite v = true ∧ value v = value (ofInt n) / 2 ^ j := by
  have hrange : |n| < 2 ^ 100 := by omega
  obtain ⟨hpowfin, hpow⟩ := ofInt_two_pow hj
  have hpos : (0 : ℚ) < 2 ^ j := by positivity
  have hquot : |value (ofInt n) / value (ofInt (2 ^ j))| < 2 ^ 100 := by
    have hn' : |(n : ℚ)| < 2 ^ 99 := by exact_mod_cast hn
    rw [hpow, abs_div, abs_of_pos hpos]
    exact (div_le_self (abs_nonneg _) (one_le_pow₀ one_le_two)).trans_lt (by linarith [abs_value_ofInt_le hrange])
  obtain ⟨v, hv, hround⟩ := div?_roundsTo (isFinite_ofInt hrange) hpowfin (hpow ▸ hpos.ne') hquot
  have hcases : value (ofInt n) = 0 ∨ 1 ≤ |value (ofInt n)| := by
    obtain rfl | h0 := eq_or_ne n 0
    · exact .inl (value_ofInt (by norm_num))
    · exact .inr (one_le_abs_value_ofInt hrange h0)
  obtain ⟨m, k, hm, hgrid⟩ := exists_value_div_eq hcases (hj.trans (by norm_num))
  rw [hpow] at hround
  exact ⟨v, hv, hround.finite, hround.eq_of_representable hm hgrid⟩

/-- So the quotient of an integer by a power of two is rounded once, by `i2f`. -/
theorem div?_ofInt_roundsTo {n : Int} (hn : |n| < 2 ^ 99) {j : Nat} (hj : j ≤ 99) :
    ∃ v, div? (ofInt n) (ofInt (2 ^ j)) = some v ∧ RoundsTo (n / 2 ^ j) v := by
  obtain ⟨v, hv, hfin, hval⟩ := div?_ofInt_exact hn hj
  refine ⟨v, hv, hfin, fun m k hm => ?_⟩
  have hnear := (ofInt_roundsTo (n := n) (by omega)).closest m (k + j) hm
  have hgrid : (m : ℚ) * 2 ^ k / 2 ^ 149 = m * 2 ^ (k + j) / 2 ^ 149 / 2 ^ j := by
    rw [pow_add]
    field_simp
  rw [hval, hgrid, abs_div_two_pow_sub, abs_div_two_pow_sub]
  gcongr

/-! ### Truncation (R111, R113) -/

theorem truncate_div (n : Int) {d : Nat} (hd : 0 < d) : Spec.truncate ((n : ℚ) / d) = n.tdiv d := by
  unfold Spec.truncate
  obtain hn | hn := le_or_gt 0 n
  · rw [if_pos (by positivity), Rat.floor_intCast_div_natCast, Int.tdiv_eq_ediv_of_nonneg hn]
  · rw [if_neg (not_le.mpr (div_neg_of_neg_of_pos (by exact_mod_cast hn) (by exact_mod_cast hd))),
      Rat.ceil_intCast_div_natCast, ← Int.tdiv_eq_ediv_of_nonneg (by omega), Int.neg_tdiv, neg_neg]

theorem truncate_intCast (n : Int) : Spec.truncate n = n := by simp [Spec.truncate]

/-- Truncation is toward zero and loses less than one. -/
theorem truncate_bounds (x : ℚ) : |(Spec.truncate x : ℚ)| ≤ |x| ∧ |(Spec.truncate x : ℚ) - x| < 1 := by
  have hfl := Int.floor_le x
  have hfl' := Int.lt_floor_add_one x
  have hcl := Int.le_ceil x
  have hcl' := Int.ceil_lt_add_one x
  unfold Spec.truncate
  split
  · next h =>
    have h0 : (0 : ℚ) ≤ ⌊x⌋ := by exact_mod_cast Int.floor_nonneg.mpr h
    rw [abs_of_nonneg h, abs_of_nonneg h0, abs_lt]
    exact ⟨hfl, by linarith, by linarith⟩
  · next h =>
    rw [not_le] at h
    have h0 : (⌈x⌉ : ℚ) ≤ 0 := by exact_mod_cast Int.ceil_le.mpr (by exact_mod_cast h.le)
    rw [abs_of_neg h, abs_of_nonpos h0, abs_lt]
    exact ⟨by linarith, by linarith, by linarith⟩

theorem le_truncate {n : Int} {x : ℚ} (h : n ≤ x) : n ≤ Spec.truncate x := by
  unfold Spec.truncate
  split
  · exact Int.le_floor.mpr h
  · exact_mod_cast h.trans (Int.le_ceil x)

theorem truncate_lt {n : Int} {x : ℚ} (hn : 0 < n) (h : x < n) : Spec.truncate x < n := by
  unfold Spec.truncate
  split
  · exact Int.floor_lt.mpr h
  · next hneg => exact (Int.ceil_le.mpr (by exact_mod_cast (not_le.mp hneg).le)).trans_lt hn

/-- `trunc` of a finite product within the range of binary32 is the truncation of the rational product. -/
theorem trunc?_eq {v : F} (hv : isFinite v = true) {j : Nat} (h : |value v| * 2 ^ j < 2 ^ 128) :
    trunc? v j = some (Spec.truncate (value v * 2 ^ j)) := by
  have hunits : units v * 2 ^ j < 2 ^ 128 * 2 ^ 149 := by
    rw [abs_value, div_mul_eq_mul_div, div_lt_iff₀ (by positivity)] at h
    exact_mod_cast h
  have hscales : scalesFinite v j = true := by
    rw [isFinite] at hv
    rw [scalesFinite, hv, Bool.true_and, decide_eq_true_eq, Nat.pow_add, Nat.mul_comm (2 ^ 149)]
    exact hunits
  have hval : value v * 2 ^ j = ((toInt v * 2 ^ j : Int) : ℚ) / (2 ^ 149 : ℕ) := by
    rw [value]
    push_cast
    ring
  rw [trunc?, if_pos hscales, truncScaled, hval, truncate_div _ (by positivity)]
  norm_num

/-- Truncating a number scaled by a power of two adds no significant bit. -/
theorem exists_truncate_eq (v : F) (j : Nat) :
    ∃ (m : Int) (k : Nat), |m| < 2 ^ 24 ∧ Spec.truncate (value v * 2 ^ j) = m * 2 ^ k := by
  obtain ⟨m, k, hm, hv⟩ := exists_value_eq v
  have hval : value v * 2 ^ j = m * 2 ^ (k + j) / 2 ^ 149 := by rw [hv, pow_add]; ring
  rw [hval]
  obtain hge | hlt := le_or_gt 149 (k + j)
  · refine ⟨m, k + j - 149, hm, ?_⟩
    have hint : (m : ℚ) * 2 ^ (k + j) / 2 ^ 149 = (m * 2 ^ (k + j - 149) : Int) := by
      rw [mul_two_pow_div_of_le _ hge]
      push_cast
      rfl
    rw [hint, truncate_intCast]
  · refine ⟨_, 0, ?_, (mul_one _).symm⟩
    have hx : |(m : ℚ) * 2 ^ (k + j) / 2 ^ 149| ≤ |(m : ℚ)| := by
      rw [mul_two_pow_div_of_ge _ hlt.le, abs_div, abs_of_pos (by positivity : (0 : ℚ) < 2 ^ (149 - (k + j)))]
      exact div_le_self (abs_nonneg _) (one_le_pow₀ one_le_two)
    have hle := (truncate_bounds ((m : ℚ) * 2 ^ (k + j) / 2 ^ 149)).1.trans hx
    have hle' : |Spec.truncate ((m : ℚ) * 2 ^ (k + j) / 2 ^ 149)| ≤ |m| := by exact_mod_cast hle
    exact hle'.trans_lt hm

/-! ### Comparisons (R13) -/

theorem toInt_lt_toInt_iff (a b : F) : toInt a < toInt b ↔ key a < key b := by
  have hab := magUnits_strictMono.lt_iff_lt (a := mag a) (b := mag b)
  have hba := magUnits_strictMono.lt_iff_lt (a := mag b) (b := mag a)
  have ha := magUnits_strictMono.lt_iff_lt (a := 0) (b := mag a)
  have hb := magUnits_strictMono.lt_iff_lt (a := 0) (b := mag b)
  simp only [magUnits_zero, ← units_eq_magUnits] at hab hba ha hb
  unfold toInt key
  split <;> split <;> omega

/-- The keys order the words as their values. -/
theorem value_lt_value_iff (a b : F) : value a < value b ↔ key a < key b := by
  rw [value, value, div_lt_div_iff_of_pos_right (by positivity), Int.cast_lt, toInt_lt_toInt_iff]

theorem value_le_value_iff (a b : F) : value a ≤ value b ↔ key a ≤ key b := by
  rw [← not_lt, value_lt_value_iff, not_lt]

theorem lt_iff (a b : F) : lt a b = true ↔ isNaN a = false ∧ isNaN b = false ∧ value a < value b := by
  simp [lt, value_lt_value_iff, and_assoc]

theorem le_iff (a b : F) : le a b = true ↔ isNaN a = false ∧ isNaN b = false ∧ value a ≤ value b := by
  simp [le, value_le_value_iff, and_assoc]

theorem natAbs_key (a : F) : (key a).natAbs = mag a := by
  unfold key
  split <;> simp

/-- What lies between two finite numbers is finite. -/
theorem isFinite_of_between {lo v hi : F} (hlo : isFinite lo = true) (hhi : isFinite hi = true) (h1 : value lo ≤ value v)
    (h2 : value v ≤ value hi) : isFinite v = true := by
  rw [isFinite_iff, ← natAbs_key] at *
  rw [value_le_value_iff] at h1 h2
  omega

end Sys2Proof.Machine.F32
end

section
/-! PROOFS. The four operations of the codec in terms of values, and the statements of the family 40_codec.md. -/

namespace Sys2Proof.Machine

open Sys2Proof.Spec

/-- A command that computes a value and writes no register ends in Success with it (R16). -/
theorem endsUnchanged_succeed (s : State) (v : Word) : EndsUnchanged (succeed v s) s .success v :=
  ⟨s.respond .success v, rfl, ⟨rfl, rfl⟩, ends_success rfl v, ⟨rfl, rfl, rfl, rfl, rfl⟩⟩

/-! ### Encoding (R111, R113) -/

/-- Where `trunc` is defined, `T8Encode` is its value modulo 2^16 (R113). -/
theorem t8Encode_of_trunc {m : Num} {v : F} {t : Int} (h : m.trunc? v 8 = some t) (draw : BitVec 16) :
    t8Encode m draw v = BitVec.ofInt 16 t := by
  simp only [t8Encode, h]

/-- Settles O25: the word is the truncated product, which in binary32 is defined below `2^104`. -/
theorem q24EncodeTruncatesAndWraps : Obligations.Q24EncodeTruncatesAndWraps := by
  intro s v
  refine ⟨_, endsUnchanged_succeed s _, fun n hn => q24Encode_of_trunc hn _, fun hnum hfin hlt => ?_⟩
  rw [hnum]
  exact q24Encode_of_trunc (m := .binary32) (F32.trunc?_eq hfin (by linarith)) _

/-- Settles O30: the raw is the truncated product, which in binary32 is defined below `2^120`. -/
theorem t8EncodeTruncatesAndWraps : Obligations.T8EncodeTruncatesAndWraps := by
  intro s v
  refine ⟨_, endsUnchanged_succeed s _, fun n hn => t8Encode_of_trunc hn _, fun hnum hfin hlt => ?_⟩
  have htrunc := F32.trunc?_eq hfin (j := 8) (by linarith)
  rw [show (2 : ℚ) ^ 8 = 256 by norm_num] at htrunc
  rw [hnum]
  exact t8Encode_of_trunc (m := .binary32) htrunc _

/-- A value of [-128, 128) is encoded without wrap (R110, R111). -/
theorem toInt_q24Encode (draw : Word) {v : F} (hv : F32.isFinite v = true) (hlo : -128 ≤ F32.value v) (hhi : F32.value v < 128) :
    (q24Encode .binary32 draw v).toInt = truncate (F32.value v * 2 ^ 24) := by
  have habs : |F32.value v| ≤ 128 := abs_le.mpr ⟨hlo, hhi.le⟩
  rw [q24Encode_of_trunc (m := .binary32) (F32.trunc?_eq hv (by linarith))]
  have hmin : -2 ^ 31 ≤ truncate (F32.value v * 2 ^ 24) := F32.le_truncate (by push_cast; linarith)
  have hmax : truncate (F32.value v * 2 ^ 24) < 2 ^ 31 := F32.truncate_lt (by positivity) (by push_cast; linarith)
  rw [BitVec.toInt_ofInt, Int.bmod_eq_of_le (by omega) (by omega)]

/-- What passes the range checks is finite and lies in [-128, 128) (R203). -/
theorem bounds_of_checked {v : F} (h : WithinPos .binary32 v ∨ WithinUnit .binary32 v) :
    F32.isFinite v = true ∧ -128 ≤ F32.value v ∧ F32.value v < 128 := by
  have hfin {n : Int} (hn : |n| < 2 ^ 24) : F32.isFinite (F32.ofInt n) = true := F32.isFinite_ofInt (hn.trans (by norm_num))
  obtain ⟨hlo, hhi⟩ | ⟨hlo, hhi⟩ := h
  · obtain ⟨-, -, hlo⟩ := (F32.le_iff (F32.ofInt (-127)) v).mp hlo
    obtain ⟨-, -, hhi⟩ := (F32.lt_iff v (F32.ofInt 128)).mp hhi
    refine ⟨F32.isFinite_of_between (hfin (by norm_num)) (hfin (by norm_num)) hlo hhi.le, ?_⟩
    rw [F32.value_ofInt (by norm_num)] at hlo hhi
    push_cast at hlo hhi
    exact ⟨by linarith, hhi⟩
  · obtain ⟨-, -, hlo⟩ := (F32.le_iff (F32.ofInt (-1)) v).mp hlo
    obtain ⟨-, -, hhi⟩ := (F32.le_iff v (F32.ofInt 1)).mp hhi
    refine ⟨F32.isFinite_of_between (hfin (by norm_num)) (hfin (by norm_num)) hlo hhi, ?_⟩
    rw [F32.value_ofInt (by norm_num)] at hlo hhi
    push_cast at hlo hhi
    exact ⟨by linarith, by linarith⟩

/-- Settles O29, since only values of [-128, 128) pass the range checks. -/
theorem checkedValuesEncodeWithoutWrap : Obligations.CheckedValuesEncodeWithoutWrap := by
  intro draw v h
  obtain ⟨hfin, hlo, hhi⟩ := bounds_of_checked h
  exact ⟨hfin, toInt_q24Encode draw hfin hlo hhi⟩

/-! ### Decoding (R112, R114) -/

/-- `fdiv` of an integer by a power of two is a result that is never a NaN, so the NaN argument is not used. -/
theorem floatResult_div_ofInt (m : Num) {n : Int} (hn : |n| < 2 ^ 99) {j : Nat} (hj : j ≤ 99) :
    FloatResult (m.div? (m.ofInt n) (m.ofInt (2 ^ j))) (m.div fZero (m.ofInt n) (m.ofInt (2 ^ j))) := by
  cases m with
  | other _ => exact .inl rfl
  | binary32 =>
    obtain ⟨v, hv, -⟩ := F32.div?_ofInt_roundsTo hn hj
    exact .inl (hv.trans (congrArg some (congrArg (Option.getD · fZero) hv).symm))

theorem div_ofInt_roundsTo {n : Int} (hn : |n| < 2 ^ 99) {j : Nat} (hj : j ≤ 99) :
    F32.RoundsTo (n / 2 ^ j) (Num.div .binary32 fZero (F32.ofInt n) (F32.ofInt (2 ^ j))) := by
  obtain ⟨v, hv, hround⟩ := F32.div?_ofInt_roundsTo hn hj
  rwa [Num.div, Num.div?, hv]

theorem abs_word_toInt_lt (w : Word) : |w.toInt| < 2 ^ 99 := by
  have hlo := w.le_toInt
  have hhi := w.toInt_lt
  exact abs_lt.mpr ⟨by omega, by omega⟩

/-- In binary32 `Q24Decode` rounds the signed word divided by `2^24` (R112). -/
theorem q24Decode_roundsTo (w : Word) : F32.RoundsTo ((w.toInt : ℚ) / 2 ^ 24) (q24Decode .binary32 w) :=
  div_ofInt_roundsTo (abs_word_toInt_lt w) (by norm_num)

/-- It is exact on a word of at most 24 significant bits. -/
theorem value_q24Decode {w : Word} {m : Int} {j : Nat} (hw : w.toInt = m * 2 ^ j) (hm : |m| < 2 ^ 24) :
    F32.value (q24Decode .binary32 w) = (w.toInt : ℚ) / 2 ^ 24 := by
  refine (q24Decode_roundsTo w).eq_of_representable (k := j + 125) hm ?_
  rw [hw, div_eq_div_iff (by positivity) (by positivity), pow_add]
  push_cast
  ring

/-- Settles O26. -/
theorem q24DecodeIsExactForShortWords : Obligations.Q24DecodeIsExactForShortWords := by
  intro s w m j hnum hw hm
  refine ⟨_, endsUnchanged_succeed s _, ?_⟩
  rw [hnum]
  exact ⟨(q24Decode_roundsTo w).finite, value_q24Decode hw (by rw [Int.abs_eq_natAbs]; exact_mod_cast hm)⟩

/-- Settles O27: the division by `2^24` is exact, so the quotient is rounded once. -/
theorem q24DecodeAnswersANearestNumber : Obligations.Q24DecodeAnswersANearestNumber := by
  intro s w
  refine ⟨_, endsUnchanged_succeed s _, floatResult_div_ofInt _ (abs_word_toInt_lt w) (j := 24) (by norm_num), fun hnum => ?_⟩
  rw [hnum]
  exact ⟨(q24Decode_roundsTo w).finite, fun u _ => (q24Decode_roundsTo w).nearest u⟩

theorem abs_raw_toNat_lt (t : BitVec 16) : |(t.toNat : Int)| < 2 ^ 24 := by
  have hlt := t.isLt
  rw [Nat.abs_cast]
  omega

/-- In binary32 `T8Decode` rounds the raw divided by 256 (R114). -/
theorem t8Decode_roundsTo (t : BitVec 16) : F32.RoundsTo ((t.toNat : ℚ) / 256) (t8Decode .binary32 t) := by
  have hround := div_ofInt_roundsTo ((abs_raw_toNat_lt t).trans (by norm_num)) (j := 8) (by norm_num)
  rwa [Int.cast_natCast, show (2 : ℚ) ^ 8 = 256 by norm_num] at hround

/-- Settles O31: a raw has no more than 24 bits, so nothing is rounded away. -/
theorem t8DecodeIsExact : Obligations.T8DecodeIsExact := by
  intro s t
  have hraw := abs_raw_toNat_lt t
  refine ⟨_, endsUnchanged_succeed s _, floatResult_div_ofInt _ (hraw.trans (by norm_num)) (j := 8) (by norm_num),
    fun hnum => ?_⟩
  rw [hnum]
  refine ⟨(t8Decode_roundsTo t).finite, (t8Decode_roundsTo t).eq_of_representable (k := 141) hraw ?_⟩
  rw [div_eq_div_iff (by norm_num) (by positivity)]
  push_cast
  ring

/-! ### The round trip (R115) -/

/-- Settles O28: truncation loses less than a unit, and the truncated product has no more bits than the value, so it is decoded
exactly. -/
theorem q24RoundTripLosesLessThanAUnit : Obligations.Q24RoundTripLosesLessThanAUnit := by
  intro draw v hfin hlo hhi
  have hword := toInt_q24Encode draw hfin hlo hhi
  obtain ⟨m, k, hm, htrunc⟩ := F32.exists_truncate_eq v 24
  refine ⟨(q24Decode_roundsTo _).finite, ?_⟩
  have hloss := (F32.truncate_bounds (F32.value v * 2 ^ 24)).2
  rw [value_q24Decode (hword.trans htrunc) hm, hword]
  calc |(truncate (F32.value v * 2 ^ 24) : ℚ) / 2 ^ 24 - F32.value v|
      = |(truncate (F32.value v * 2 ^ 24) : ℚ) - F32.value v * 2 ^ 24| / 2 ^ 24 := by
        rw [← F32.abs_div_two_pow_sub, mul_div_cancel_right₀ _ (by positivity)]
    _ < 1 / 2 ^ 24 := by gcongr

end Sys2Proof.Machine
end

section
/-! PROOFS. The invariant of Safety.lean in five parts (the cascades, the records, the sequencer, the phases, the other flags),
what each agent's step does to each part, and the statement of the family 41_pid.md about every step. -/

namespace Sys2Proof.Machine

open Sys2Proof.Spec

/-- A write to one entry of a list keeps what holds of every entry. -/
theorem forall_mem_modify {α : Type} {P : α → Prop} {f : α → α} {l : List α} (hf : ∀ a, P a → P (f a)) (hl : ∀ a ∈ l, P a)
    (k : Nat) : ∀ a ∈ l.modify k f, P a := by
  rw [List.forall_mem_iff_getElem] at *
  intro i hi
  have hentry := hl i (by simpa using hi)
  rw [List.getElem_modify]
  split
  · exact hf _ hentry
  · exact hentry

/-! ### The limits tags (R126, R28) -/

/-- The write to a loop leaves a limits tag that belongs to the limits. -/
def KeepsTag (g : Cfg) (f : PidState → PidState) : Prop := ∀ p, p.limitsTagged g → (f p).limitsTagged g

/-- The same for a write to a cascade. -/
def KeepsTags (g : Cfg) (f : Cascade → Cascade) : Prop := ∀ c, c.limitsTagged g → (f c).limitsTagged g

theorem KeepsTag.modLoop {g : Cfg} {f : PidState → PidState} (hf : KeepsTag g f) (l : Loop) :
    KeepsTags g (fun c => c.modLoop l f) := by
  rintro c ⟨hpos, hvel, hcur⟩
  cases l with
  | pos => exact ⟨hf _ hpos, hvel, hcur⟩
  | vel => exact ⟨hpos, hf _ hvel, hcur⟩
  | cur => exact ⟨hpos, hvel, hf _ hcur⟩

theorem KeepsTags.comp {g : Cfg} {f h : Cascade → Cascade} (hf : KeepsTags g f) (hh : KeepsTags g h) :
    KeepsTags g (fun c => f (h c)) := fun c hc => hf _ (hh c hc)

/-- `pid.step` writes neither the limits nor their tag (R128). -/
theorem pidStep_keepsTag (g : Cfg) (m : Num) (nan : Nat → F) : KeepsTag g (pidStep m nan) := by
  intro p hp
  obtain ⟨_, _, _, _, _, _, h⟩ := pidStep_frame m nan p
  rw [h]
  exact hp

theorem calculate_keepsTags (g : Cfg) (m : Num) (nan : Nat → F) : KeepsTags g (calculate m nan) := by
  have hpos : KeepsTags g (stagePos m nan) := fun c ⟨hp, hv, hc⟩ => ⟨pidStep_keepsTag g _ _ _ hp, hv, hc⟩
  have hvel : KeepsTags g (stageVel m nan) := fun c ⟨hp, hv, hc⟩ => ⟨hp, pidStep_keepsTag g _ _ _ hv, hc⟩
  have hcur : KeepsTags g (stageCur m nan) := fun c ⟨hp, hv, hc⟩ => ⟨hp, hv, pidStep_keepsTag g _ _ _ hc⟩
  intro c hc
  unfold calculate
  split
  · exact hcur _ (hvel _ (hpos _ hc))
  · exact hcur _ (hvel _ hc)
  · exact hcur _ hc

/-! ### The cascades: their number and their limits -/

/-- The clauses of the invariant about the cascades. -/
def State.CascadesOk (s : State) : Prop :=
  s.cascades.length = s.cfg.nDev ∧ ∀ c ∈ s.cascades, c.limitsTagged s.cfg

namespace State.CascadesOk

variable {s t : State}

theorem of_same (hs : s.CascadesOk) (hd : t.cascades = s.cascades) (hc : t.cfg = s.cfg) : t.CascadesOk := by
  rwa [State.CascadesOk, hd, hc]

theorem of_write (hs : s.CascadesOk) {k : Nat} {f : Cascade → Cascade} (hd : t.cascades = s.cascades.modify k f)
    (hc : t.cfg = s.cfg) (hf : KeepsTags s.cfg f) : t.CascadesOk := by
  obtain ⟨hlen, htag⟩ := hs
  rw [State.CascadesOk, hd, hc, List.length_modify]
  exact ⟨hlen, forall_mem_modify hf htag k⟩

end State.CascadesOk

theorem driveCascade_cascades (k : Nat) (s : State) : (driveCascade k s).cascades =
    s.cascades.modify k (fun c => calculate s.cfg.num s.nan (pushFeedback (s.dev k) c)) := by
  unfold driveCascade
  dsimp only
  split <;> rfl

theorem driveCascade_cascadesOk {s : State} (hs : s.CascadesOk) (k : Nat) : (driveCascade k s).CascadesOk :=
  have hpush : KeepsTags s.cfg (pushFeedback (s.dev k)) := fun _ hc => hc
  hs.of_write (driveCascade_cascades k s) (driveCascade_frame k s).2 ((calculate_keepsTags _ _ _).comp hpush)

theorem afterSuccess_cascadesOk {s : State} (hs : s.CascadesOk) (call : Call) (x k : Nat) :
    (afterSuccess call x k s).CascadesOk := by
  obtain ⟨-, hc, -⟩ := afterSuccess_frame call x k s
  obtain hd | ⟨rfl, rfl⟩ := afterSuccess_cascades call x k s
  · exact hs.of_same hd hc
  · exact driveCascade_cascadesOk hs k

theorem settleStep_cascadesOk {s : State} (hs : s.CascadesOk) (call : Call) (x k : Nat) :
    (settleStep call x k s).CascadesOk := by
  obtain ⟨-, he⟩ | ⟨-, he⟩ | ⟨-, he⟩ := settleStep_cases call x k s <;> rw [he]
  · exact afterSuccess_cascadesOk (s := s.modDev k (settle s.cfg)) hs call x k
  · exact hs
  · exact hs

theorem ExecutorShape.cascadesOk {s t : State} (h : ExecutorShape s t) (hs : s.CascadesOk) : t.CascadesOk := by
  cases h with
  | settle => exact settleStep_cascadesOk hs ..
  | idle | clear | decode | exhaust => exact hs
  | sample | transmit | poll => exact hs.of_same (by simp) (by simp)

/-! ### The records: their number, their slots and their books (R88, R177) -/

/-- The slot holds a frame, and an Online device has fewer failures than the threshold. -/
def ActuatorRecord.BooksOk (c : Cfg) (r : ActuatorRecord) : Prop :=
  r.rx.dlc.toNat ≤ 8 ∧ (r.live = .online → r.failCnt.toNat < c.offlineThreshold)

/-- The clauses of the invariant about every record. -/
def State.RecordsOk (s : State) : Prop := s.devs.length = s.cfg.nDev ∧ ∀ r ∈ s.devs, r.BooksOk s.cfg

namespace State.RecordsOk

variable {s t : State}

theorem of_same (hs : s.RecordsOk) (hd : t.devs = s.devs) (hc : t.cfg = s.cfg) : t.RecordsOk := by
  rwa [State.RecordsOk, hd, hc]

theorem of_write (hs : s.RecordsOk) {k : Nat} {f : ActuatorRecord → ActuatorRecord} (hd : t.devs = s.devs.modify k f)
    (hc : t.cfg = s.cfg) (hf : ∀ r, r.BooksOk s.cfg → (f r).BooksOk s.cfg) : t.RecordsOk := by
  obtain ⟨hlen, hbooks⟩ := hs
  rw [State.RecordsOk, hd, hc, List.length_modify]
  exact ⟨hlen, forall_mem_modify hf hbooks k⟩

end State.RecordsOk

namespace ActuatorRecord.BooksOk

variable {c : Cfg} {r : ActuatorRecord}

/-- After one more failure an Online device has not reached the threshold (R177). -/
theorem failBook (h : r.BooksOk c) : (failBook c.offlineThreshold r).BooksOk c := by
  refine ⟨h.1, fun hlive => ?_⟩
  rw [failBook_live] at hlive
  split at hlive
  · cases hlive
  · next hlt => exact not_le.mp hlt

/-- After a success the count is zero, which is below the threshold (R176, R9). -/
theorem okBook (h : r.BooksOk c) (hc : 1 ≤ c.offlineThreshold) : (okBook r).BooksOk c :=
  ⟨h.1, fun _ => hc⟩

theorem setPhase (h : r.BooksOk c) (p : Phase) : (setPhase p r).BooksOk c := h

theorem settle (h : r.BooksOk c) (hc : 1 ≤ c.offlineThreshold) : (settle c r).BooksOk c := by
  unfold Machine.settle
  split
  · exact (h.setPhase _).okBook hc
  · exact (h.setPhase _).failBook
  · exact (h.setPhase _).failBook

theorem timeOut (h : r.BooksOk c) : (timeOut c r).BooksOk c := (h.setPhase _).failBook

theorem noteCommanded (h : r.BooksOk c) (s : State) (call : Call) (x k : Nat) : (noteCommanded s call x k r).BooksOk c := by
  obtain ⟨_, _, _, he⟩ := noteCommanded_frame s call x k r
  rw [he]
  exact h

theorem of_keepsFlags {f : ActuatorRecord → ActuatorRecord} (hf : KeepsFlags f) (h : r.BooksOk c) : (f r).BooksOk c := by
  obtain ⟨-, -, hlive, hcnt, hrx⟩ := hf r
  rwa [ActuatorRecord.BooksOk, hlive, hcnt, hrx]

theorem receive {a : Arrival} (h : r.BooksOk c) (ha : a.dlc.toNat ≤ 8) : (receive a r).BooksOk c := ⟨ha, h.2⟩

end ActuatorRecord.BooksOk

/-- The bounds of R9 that the steps rest on. -/
theorem Cfg.bounds_of_wf {c : Cfg} (h : c.wf = true) : 1 ≤ c.timeoutIters ∧ 1 ≤ c.offlineThreshold := by
  simp only [Cfg.wf, Bool.and_eq_true, decide_eq_true_eq] at h
  obtain ⟨⟨⟨⟨⟨-, hpolls⟩, hthreshold⟩, -⟩, -⟩, -⟩ := h
  exact ⟨hpolls, hthreshold⟩

theorem ExecutorShape.recordsOk {s t : State} (h : ExecutorShape s t) (hs : s.RecordsOk) (hw : 1 ≤ s.cfg.offlineThreshold) :
    t.RecordsOk := by
  have hc := h.cfg
  cases h with
  | idle => exact hs
  | sample | poll => exact hs.of_same (by simp) hc
  | clear => exact hs.of_write (f := clearFlags) rfl hc fun _ hr => hr
  | @transmit call x k n hq =>
    obtain ⟨-, -, hd⟩ | ⟨-, -, hd⟩ := transmitStep_cases call x k s
    · exact hs.of_write hd hc fun _ hr => (hr.setPhase _).noteCommanded s call x k
    · exact hs.of_write hd hc fun _ hr => hr.setPhase _
  | decode hq hf => exact hs.of_write rfl hc fun _ hr => hr.of_keepsFlags hf
  | settle => exact hs.of_write (settleStep_frame _ _ _ s).1 hc fun _ hr => hr.settle hw
  | exhaust => exact hs.of_write rfl hc fun _ hr => hr.timeOut

/-- An arrival that is taken has at most eight bytes (R88, R237). -/
theorem notify_recordsOk {a : Arrival} {s t : State} (h : notify a s = .next t) (hs : s.RecordsOk) : t.RecordsOk := by
  have hc := notify_cfg h
  obtain ⟨-, he⟩ | ⟨-, -, he⟩ | ⟨hframe, k, -, he⟩ := notify_cases a s <;> rw [he] at h <;> cases h
  · exact hs
  · obtain ⟨hdlc, -⟩ := (a.isFrame_iff s.cfg).mp hframe
    exact hs.of_write (f := receive a) rfl hc fun _ hr => hr.receive hdlc

/-! ### The sequencer (R50) -/

/-- The exchange addresses the registry, is one of its command's, and carries checked operands. -/
def State.ExchangeOk (s : State) (call : Call) (x k : Nat) : Prop :=
  k < s.cfg.nDev ∧ x < call.exchanges ∧ s.callOk call x k

theorem State.ExchangeOk.of_same {s t : State} {call : Call} {x k : Nat} (h : s.ExchangeOk call x k)
    (hd : t.cascades = s.cascades) (hc : t.cfg = s.cfg) : t.ExchangeOk call x k := by
  have hloop : t.loop k .cur = s.loop k .cur := by rw [State.loop, State.cascade, hd]; rfl
  unfold State.ExchangeOk State.callOk at *
  rwa [hloop, hc]

theorem seqOk_of_ready {s : State} (hq : s.seq = .ready) : s.seqOk := by
  simp only [State.seqOk, hq]

theorem seqOk_iff_of_busy {s : State} {call : Call} {x k n : Nat} {p : Point} (hq : s.seq = .busy call x p k n) :
    s.seqOk ↔ s.ExchangeOk call x k ∧ n ≤ s.cfg.timeoutIters ∧ (p = .poll → n < s.cfg.timeoutIters) := by
  simp only [State.seqOk, State.ExchangeOk, hq]
  tauto

/-- A step that goes on in an exchange in order, and leaves the cascades, leaves the sequencer in order. -/
theorem State.ExchangeOk.seqOk {s t : State} {call : Call} {x k n : Nat} {p : Point} (h : s.ExchangeOk call x k)
    (hd : t.cascades = s.cascades) (hc : t.cfg = s.cfg) (hq : t.seq = .busy call x p k n) (hn : n ≤ s.cfg.timeoutIters)
    (hp : p = .poll → n < s.cfg.timeoutIters) : t.seqOk :=
  (seqOk_iff_of_busy hq).mpr ⟨h.of_same hd hc, hc ▸ hn, hc ▸ hp⟩

theorem seqOk_of_same {s t : State} (hs : s.seqOk) (hd : t.cascades = s.cascades) (hc : t.cfg = s.cfg) (hq : t.seq = s.seq) :
    t.seqOk := by
  cases hb : s.seq with
  | ready => exact seqOk_of_ready (hq.trans hb)
  | busy call x p k n =>
    obtain ⟨hx, hn, hp⟩ := (seqOk_iff_of_busy hb).mp hs
    exact hx.seqOk hd hc (hq.trans hb) hn hp

theorem sampleBus_seqOk {s : State} {call : Call} {x k : Nat} (h : s.ExchangeOk call x k) : (sampleBus call x k s).seqOk := by
  obtain ⟨-, he⟩ | ⟨-, he⟩ := sampleBus_cases call x k s <;> rw [he]
  · exact h.seqOk rfl rfl rfl (Nat.zero_le _) nofun
  · exact seqOk_of_ready rfl

theorem transmitStep_seqOk {s : State} {call : Call} {x k : Nat} (h : s.ExchangeOk call x k) (hw : 1 ≤ s.cfg.timeoutIters) :
    (transmitStep call x k s).seqOk := by
  obtain ⟨-, hq, -⟩ | ⟨-, hq, -⟩ := transmitStep_cases call x k s
  · exact h.seqOk (by simp) (by simp) hq (Nat.zero_le _) fun _ => hw
  · exact seqOk_of_ready hq

theorem pollStep_seqOk {s : State} {call : Call} {x k n : Nat} (h : s.ExchangeOk call x k) (hn : n < s.cfg.timeoutIters) :
    (pollStep call x k n s).seqOk := by
  obtain ⟨-, he⟩ | ⟨-, hlt, he⟩ | ⟨-, -, he⟩ := pollStep_cases call x k n s <;> rw [he]
  · exact h.seqOk rfl rfl rfl hn nofun
  · exact h.seqOk rfl rfl rfl hn fun _ => hlt
  · exact h.seqOk rfl rfl rfl hn nofun

/-- `drive_cycle` goes on to its fourth exchange only with a checked command (R215). -/
theorem driveCascade_seqOk {s : State} {k : Nat} (hk : k < s.cfg.nDev) : (driveCascade k s).seqOk := by
  unfold driveCascade
  dsimp only
  split
  · next hin =>
    exact (seqOk_iff_of_busy (call := .driveCycle) (x := 3) rfl).mpr
      ⟨⟨hk, by simp [Call.exchanges], fun _ => hin⟩, Nat.zero_le _, nofun⟩
  · exact seqOk_of_ready rfl

theorem afterSuccess_seqOk {s : State} {call : Call} {x k : Nat} (h : s.ExchangeOk call x k) :
    (afterSuccess call x k s).seqOk := by
  obtain ⟨hk, -, -⟩ := h
  have next (y : Nat) (hy : y < call.exchanges) (hcall : s.callOk call y k) : (s.goTo call y .s1 k 0).seqOk :=
    (seqOk_iff_of_busy rfl).mpr ⟨⟨hk, hy, hcall⟩, Nat.zero_le _, nofun⟩
  cases call with
  | setMode | setPower =>
    simp only [afterSuccess]
    split
    · exact next 1 (by simp [Call.exchanges]) trivial
    · split <;> exact seqOk_of_ready rfl
  | driveCycle =>
    simp only [afterSuccess]
    split
    · next hx => exact next (x + 1) (by simp only [Call.exchanges]; omega) (fun h3 => by omega)
    · split
      · exact driveCascade_seqOk hk
      · exact seqOk_of_ready rfl
  | _ => exact seqOk_of_ready rfl

theorem settleStep_seqOk {s : State} {call : Call} {x k : Nat} (h : s.ExchangeOk call x k) : (settleStep call x k s).seqOk := by
  obtain ⟨-, he⟩ | ⟨-, he⟩ | ⟨-, he⟩ := settleStep_cases call x k s <;> rw [he]
  · exact afterSuccess_seqOk (h.of_same rfl rfl)
  · exact seqOk_of_ready rfl
  · exact seqOk_of_ready rfl

theorem ExecutorShape.seqOk {s t : State} (h : ExecutorShape s t) (hs : s.seqOk) (hw : 1 ≤ s.cfg.timeoutIters) : t.seqOk := by
  cases h with
  | idle => exact hs
  | sample hq => exact sampleBus_seqOk ((seqOk_iff_of_busy hq).mp hs).1
  | clear hq => exact ((seqOk_iff_of_busy hq).mp hs).1.seqOk rfl rfl rfl (Nat.zero_le _) nofun
  | transmit hq => exact transmitStep_seqOk ((seqOk_iff_of_busy hq).mp hs).1 hw
  | poll hq =>
    obtain ⟨hx, -, hpoll⟩ := (seqOk_iff_of_busy hq).mp hs
    exact pollStep_seqOk hx (hpoll rfl)
  | decode hq =>
    obtain ⟨hx, hn, -⟩ := (seqOk_iff_of_busy hq).mp hs
    exact hx.seqOk rfl rfl rfl hn nofun
  | settle hq => exact settleStep_seqOk ((seqOk_iff_of_busy hq).mp hs).1
  | exhaust => exact seqOk_of_ready rfl

/-! ### `ack` and the settled phases (R172, R174, R231) -/

@[simp] theorem Seq.not_holdsClear_ready (k : Nat) : ¬ Seq.ready.holdsClear k := by simp [Seq.holdsClear]

@[simp] theorem Seq.holdsClear_busy (call : Call) (x : Nat) (p : Point) (k n j : Nat) :
    (Seq.busy call x p k n).holdsClear j ↔ k = j ∧ (p = .s3 ∨ p = .poll ∨ p = .s4 ∨ p = .s5a) := by
  simp [Seq.holdsClear]

@[simp] theorem Seq.not_inFlight_ready (k : Nat) : ¬ Seq.ready.inFlight k := by simp [Seq.inFlight]

@[simp] theorem Seq.inFlight_busy (call : Call) (x : Nat) (p : Point) (k n j : Nat) :
    (Seq.busy call x p k n).inFlight j ↔ k = j ∧ (p = .s3 ∨ p = .poll ∨ p = .s4 ∨ p = .s5 ∨ p = .s5a) := by
  simp only [Seq.inFlight, Seq.awaits_busy, Seq.busy.injEq]
  grind

/-- What the sequencer says of the `ack` and the phase of device `k`: Clear from `S2` to the decode, and outside an exchange as
the last one left them. -/
def FlagsOk (q : Seq) (k : Nat) (r : ActuatorRecord) : Prop :=
  (q.holdsClear k → r.ack = .clear) ∧ (¬ q.inFlight k → r.settled)

/-- The clauses of the invariant about `ack` and the settled phases. -/
def State.FlagsAgree (s : State) : Prop := ∀ k, k < s.cfg.nDev → FlagsOk s.seq k (s.dev k)

namespace State.FlagsAgree

variable {s t : State}

theorem of_sameDevs (hs : s.FlagsAgree) (hd : t.devs = s.devs) (hc : t.cfg = s.cfg)
    (hq : ∀ k r, FlagsOk s.seq k r → FlagsOk t.seq k r) : t.FlagsAgree := by
  intro k hk
  rw [dev_congr hd hc]
  exact hq k _ (hs k (hc ▸ hk))

/-- A write to the record of the exchange in progress, where the sequencer goes on in no other device's exchange. -/
theorem of_write (hs : s.FlagsAgree) (hl : s.devs.length = s.cfg.nDev) {call : Call} {x k n : Nat} {p : Point}
    (hq : s.seq = .busy call x p k n) {f : ActuatorRecord → ActuatorRecord} (hd : t.devs = s.devs.modify k f)
    (hc : t.cfg = s.cfg) (hsame : FlagsOk s.seq k (s.dev k) → FlagsOk t.seq k (f (s.dev k)))
    (hgoes : t.seq = .ready ∨ ∃ call x p n, t.seq = .busy call x p k n) : t.FlagsAgree := by
  intro j hj
  rw [hc] at hj
  rw [dev_congr (s := s.modDev k f) hd hc]
  by_cases hjk : j = k
  · subst hjk
    rw [dev_modDev_same s j f (hl ▸ hj)]
    exact hsame (hs j hj)
  · obtain ⟨-, hsettled⟩ := hs j hj
    rw [dev_modDev_other s f hjk]
    refine ⟨fun h => ?_, fun _ => hsettled ?_⟩
    · obtain hq' | ⟨_, _, _, _, hq'⟩ := hgoes <;> rw [hq'] at h
      · exact absurd h (Seq.not_holdsClear_ready j)
      · exact absurd ((Seq.holdsClear_busy ..).mp h).1.symm hjk
    · rw [hq, Seq.inFlight_busy]
      exact fun h => hjk h.1.symm

end State.FlagsAgree

@[simp] theorem noteCommanded_ack (s : State) (call : Call) (x k : Nat) (r : ActuatorRecord) :
    (noteCommanded s call x k r).ack = r.ack := by
  obtain ⟨_, _, _, h⟩ := noteCommanded_frame s call x k r
  rw [h]

/-- `S5` leaves the phase that tells the `ack` (R172). -/
theorem settle_settled (c : Cfg) (r : ActuatorRecord) : (settle c r).settled := by
  unfold settle
  split
  · next h => exact h
  · next h => exact h
  · next h => exact h

theorem timeOut_settled (c : Cfg) {r : ActuatorRecord} (h : r.ack = .clear) : (timeOut c r).settled := h

/-- The executor keeps the flags and the sequencer in step. -/
theorem ExecutorShape.flagsAgree {s t : State} (h : ExecutorShape s t) (hs : s.FlagsAgree) (hl : s.devs.length = s.cfg.nDev) :
    t.FlagsAgree := by
  have hc := h.cfg
  cases h with
  | idle => exact hs
  | @sample call x k n hq =>
    refine hs.of_sameDevs (by simp) hc fun j r hr => ?_
    obtain ⟨-, he⟩ | ⟨-, he⟩ := sampleBus_cases call x k s <;> simpa [FlagsOk, he, hq] using hr
  | clear hq =>
    exact hs.of_write hl hq (f := clearFlags) rfl hc (fun _ => by simp [FlagsOk, clearStep]) (.inr ⟨_, _, _, _, rfl⟩)
  | @transmit call x k n hq =>
    obtain ⟨-, hseq, hd⟩ | ⟨-, hseq, hd⟩ := transmitStep_cases call x k s
    · exact hs.of_write hl hq hd hc (fun hr => by simpa [FlagsOk, hseq, hq] using hr) (.inr ⟨_, _, _, _, hseq⟩)
    · refine hs.of_write hl hq hd hc (fun hr => ⟨by simp [hseq], fun _ => ?_⟩) (.inl hseq)
      exact hr.1 (by simp [hq])
  | @poll call x k n hq =>
    refine hs.of_sameDevs (by simp) hc fun j r hr => ?_
    obtain ⟨-, he⟩ | ⟨-, -, he⟩ | ⟨-, -, he⟩ := pollStep_cases call x k n s <;> simpa [FlagsOk, he, hq] using hr
  | decode hq hf => exact hs.of_write hl hq rfl hc (fun _ => by simp [FlagsOk]) (.inr ⟨_, _, _, _, rfl⟩)
  | @settle call x k n hq =>
    have hgoes := settleStep_seq call x k s
    refine hs.of_write hl hq (settleStep_frame call x k s).1 hc (fun _ => ⟨fun h => ?_, fun _ => settle_settled _ _⟩)
      (hgoes.imp_right fun ⟨y, h⟩ => ⟨_, _, _, _, h⟩)
    obtain hseq | ⟨y, hseq⟩ := hgoes <;> simp [hseq] at h
  | exhaust hq =>
    refine hs.of_write hl hq (f := timeOut s.cfg) rfl hc (fun hr => ⟨by simp [exhaustedStep], fun _ => ?_⟩)
      (.inl rfl)
    exact timeOut_settled _ (hr.1 (by simp [hq]))

theorem notify_flagsAgree {a : Arrival} {s t : State} (h : notify a s = .next t) (hs : s.FlagsAgree) : t.FlagsAgree := by
  have hc := notify_cfg h
  obtain ⟨-, hq, hd | ⟨k, -, hd⟩⟩ := notify_frame h
  · exact hs.of_sameDevs hd hc fun _ _ hr => hq ▸ hr
  · intro j hj
    have hflags := hs j (hc ▸ hj)
    rw [hq, dev_congr (s := s.modDev k (receive a)) hd hc]
    obtain he | ⟨rfl, he⟩ := dev_modDev_cases s k j (receive a) <;> rw [he]
    · exact hflags
    · exact hflags

/-! ### What a command leaves of the cascades and the sequencer (R86, R200) -/

theorem onLoop_of_forall {P : Out → Prop} {dev : Byte} {loop : BitVec 2} {s : State} {act : Loop → Out} (h : ∀ l, P (act l))
    (hillegal : P (illegal s)) : P (onLoop dev loop s act) := by
  obtain ⟨l, -, -, he⟩ | ⟨-, he⟩ := onLoop_cases dev loop s act <;> rw [he]
  · exact h l
  · exact hillegal

theorem onCascade_of_lt {P : Out → Prop} {dev : Byte} {s : State} {act : Out} (h : dev.toNat < s.cfg.nDev → P act)
    (hillegal : P (illegal s)) : P (onCascade dev s act) := by
  obtain ⟨hd, he⟩ | ⟨-, he⟩ := onCascade_cases dev s act <;> rw [he]
  · exact h hd
  · exact hillegal

theorem onDevice_of_forall {P : Out → Prop} {dev : Byte} {s : State} {act : Nat → Out} (h : ∀ k, k < s.cfg.nDev → P (act k))
    (hnone : P (failWith .deviceNotFound s)) : P (onDevice dev s act) := by
  obtain ⟨k, hk, he⟩ | ⟨-, he⟩ := onDevice_cases dev s act <;> rw [he]
  · exact h k (find_some hk).1
  · exact hnone

/-- The shapes of `ExecShape` with what the checks of a command have established: a write keeps the limits tagged, and a call
starts with an exchange in order. -/
inductive CheckedShape (s : State) : Out → Prop
  | ends (r : Result) (v : Word) : CheckedShape s (.next (s.respond r v))
  | writes (c : Nat) (f : Cascade → Cascade) (v : Word) (hf : KeepsTags s.cfg f) : CheckedShape s (succeed v (s.modCascade c f))
  | starts (call : Call) (k : Nat) (hx : s.ExchangeOk call 0 k) : CheckedShape s (start call k s)
  | decodes (f : ActuatorRecord → ActuatorRecord) : CheckedShape s (decodeInto f s)

theorem Call.exchanges_pos (call : Call) : 0 < call.exchanges := by cases call <;> simp [Call.exchanges]

namespace CheckedShape

variable {s : State}

theorem illegal (s : State) : CheckedShape s (illegal s) := .ends .illegalCommand 0

theorem onLoop_write (dev : Byte) (loop : BitVec 2) {f : PidState → PidState} (hf : KeepsTag s.cfg f) :
    CheckedShape s (onLoop dev loop s (fun l => succeed 0 (s.modLoop dev.toNat l f))) :=
  onLoop_of_forall (fun l => .writes _ _ _ (hf.modLoop l)) (illegal s)

theorem onDevice_start (dev : Byte) {call : Call} (hcall : ∀ k, s.callOk call 0 k) :
    CheckedShape s (onDevice dev s (fun k => start call k s)) :=
  onDevice_of_forall (fun k hk => .starts call k ⟨hk, call.exchanges_pos, hcall k⟩) (.ends .deviceNotFound 0)

theorem setOutermost (dev : Byte) (mode : OpMode) (l : Loop) {f : PidState → PidState} (hf : KeepsTag s.cfg f) :
    CheckedShape s (setOutermost dev mode l f s) := by
  refine onCascade_of_lt (fun _ => ?_) (illegal s)
  split
  · exact .writes _ _ _ (hf.modLoop l)
  · exact .ends .modeMismatch 0

theorem setChecked (dev : Byte) {ok : Bool} {call : Call} (hcall : ok = true → ∀ k, s.callOk call 0 k) :
    CheckedShape s (setChecked dev ok call s) := by
  refine onDevice_of_forall (fun k hk => ?_) (.ends .deviceNotFound 0)
  split
  · next hok => exact .starts call k ⟨hk, call.exchanges_pos, hcall hok k⟩
  · exact .ends .outOfRange 0

end CheckedShape

/-- Every instruction's meaning has such a shape. -/
theorem exec_checkedShape (i : Instr) (s : State) : CheckedShape s (exec i s) := by
  cases i with
  | pidConfigure =>
    simp only [exec, execPidConfigure]
    split
    · exact .illegal s
    · exact .onLoop_write _ _ fun _ hp => hp
  | pidSetSetpoint | pidSetFeedback | pidSetFeedforward | pidSetGains | pidClear => exact .onLoop_write _ _ fun _ hp => hp
  | pidSetLimits => exact .onLoop_write _ _ fun _ _ => .inl rfl
  | pidStep => exact .onLoop_write _ _ (pidStep_keepsTag _ _ _)
  | pidOutput => exact onLoop_of_forall (fun _ => .ends .success _) (.illegal s)
  | casSetMode =>
    simp only [exec, execCasSetMode]
    split
    · exact .illegal s
    · exact onCascade_of_lt (fun _ => .writes _ _ _ fun _ hc => hc) (.illegal s)
  | casCalculate => exact onCascade_of_lt (fun _ => .writes _ _ _ (calculate_keepsTags _ _ _)) (.illegal s)
  | casSetCurrent | casSetVelocity | casSetPosition | casSetCurrentFf | casSetVelocityFf | casSetPositionFf =>
    exact .setOutermost _ _ _ fun _ hp => hp
  | q24Encode | q24Decode | t8Encode | t8Decode => exact .ends .success _
  | regFind => exact onDevice_of_forall (fun _ _ => .ends .success _) (.ends .deviceNotFound 0)
  | regRead =>
    simp only [exec, execRegRead]
    split
    · exact .illegal s
    · exact onDevice_of_forall (fun _ _ => .ends .success _) (.ends .deviceNotFound 0)
  | actHandshake | actSetMode | actSetPower => exact .onDevice_start _ fun _ => trivial
  | actGet | actSetLimit =>
    simp only [exec, execActGet, execActSetLimit]
    split
    · exact .illegal s
    · next hkind => exact .onDevice_start _ fun _ => List.mem_of_getElem? hkind
  | actSend dev dlc =>
    simp only [exec, execActSend]
    split
    · exact .illegal s
    · next hdlc => exact .onDevice_start _ fun _ => ⟨by bv_omega, by omega⟩
  | actSetCurrent | actSetSpeed | actSetPosition => exact .setChecked _ fun hok _ => hok
  | driveCycle dev =>
    exact onCascade_of_lt (fun hd => .starts .driveCycle _ ⟨hd, Call.exchanges_pos _, nofun⟩) (.illegal s)
  | _ => exact .decodes _ -- the frame kinds

namespace CheckedShape

variable {s t : State} {o : Out}

theorem cascadesOk (h : CheckedShape s o) (ho : o = .next t) (hs : s.CascadesOk) : t.CascadesOk := by
  cases h with
  | ends r v => cases ho; exact hs
  | writes c f v hf => cases ho; exact hs.of_write (f := f) rfl rfl hf
  | starts call k hx => cases ho; exact hs.of_same (by simp) (by simp)
  | decodes f => obtain ⟨k, -, he⟩ | ⟨-, he⟩ := decodeInto_cases f s <;> cases he.symm.trans ho <;> exact hs

theorem seqOk (h : CheckedShape s o) (ho : o = .next t) (hs : s.seqOk) : t.seqOk := by
  cases h with
  | ends r v => cases ho; exact seqOk_of_ready rfl
  | writes c f v hf => cases ho; exact seqOk_of_ready rfl
  | starts call k hx => cases ho; exact sampleBus_seqOk hx
  | decodes f => obtain ⟨k, -, he⟩ | ⟨-, he⟩ := decodeInto_cases f s <;> cases he.symm.trans ho <;> exact hs

end CheckedShape

theorem acceptCommand_cascadesOk {cmd : BitVec 128} {s t : State} (h : acceptCommand cmd s = .next t) (hs : s.CascadesOk) :
    t.CascadesOk := by
  obtain ⟨-, he⟩ | ⟨-, i, -, he⟩ | ⟨-, -, he⟩ := acceptCommand_cases cmd s <;> rw [he] at h
  · cases h; exact hs
  · exact (exec_checkedShape i (s.record (.command cmd))).cascadesOk h hs
  · cases h; exact hs

theorem acceptCommand_seqOk {cmd : BitVec 128} {s t : State} (h : acceptCommand cmd s = .next t) (hs : s.seqOk) : t.seqOk := by
  obtain ⟨-, he⟩ | ⟨-, i, -, he⟩ | ⟨-, -, he⟩ := acceptCommand_cases cmd s <;> rw [he] at h
  · cases h; exact hs
  · exact (exec_checkedShape i (s.record (.command cmd))).seqOk h hs
  · cases h; exact seqOk_of_ready rfl

/-- A command that is accepted finds every device settled, and leaves the records alone. -/
theorem acceptCommand_flagsAgree {cmd : BitVec 128} {s t : State} (h : acceptCommand cmd s = .next t) (hs : s.FlagsAgree) :
    t.FlagsAgree := by
  refine hs.of_sameDevs (acceptCommand_devs h) (acceptCommand_cfg h) fun k r hr => ?_
  obtain ⟨-, he⟩ | ⟨hq, i, -, he⟩ | ⟨hq, -, he⟩ := acceptCommand_cases cmd s <;> rw [he] at h
  · cases h; exact hr
  · obtain ⟨-, hseq | ⟨call, k, hseq⟩⟩ := (exec_shape i (s.record (.command cmd))).of_ready hq h <;>
      simpa [FlagsOk, hseq, hq] using hr
  · cases h; rwa [hq] at hr

/-! ### The invariant -/

/-- The invariant is its five parts under a well-formed configuration. -/
theorem State.inv_iff (s : State) :
    s.Inv ↔ s.cfg.wf = true ∧ s.CascadesOk ∧ s.RecordsOk ∧ s.seqOk ∧ s.AwaitsExactly ∧ s.FlagsAgree := by
  constructor
  · intro h
    exact ⟨h.cfg, ⟨h.nCascades, h.limits⟩, ⟨h.nDevs, fun r hr => ⟨h.slots r hr, h.liveness r hr⟩⟩, h.seq, h.awaiting,
      fun k hk => ⟨h.cleared k hk, h.settled k hk⟩⟩
  · rintro ⟨hcfg, ⟨hcas, hlim⟩, ⟨hdevs, hbooks⟩, hseq, hawait, hflags⟩
    exact ⟨hcfg, hcas, hdevs, hlim, fun r hr => (hbooks r hr).1, fun r hr => (hbooks r hr).2, hseq, hawait,
      fun k hk => (hflags k hk).1, fun k hk => (hflags k hk).2⟩

/-- What stands at the ports, and the step counter, are no matter of the invariant. -/
theorem State.Inv.of_sameCore {s t : State} (hs : s.Inv) (hcfg : t.cfg = s.cfg) (hcas : t.cascades = s.cascades)
    (hdevs : t.devs = s.devs) (hseq : t.seq = s.seq) : t.Inv := by
  cases s
  cases t
  cases hcfg
  cases hcas
  cases hdevs
  cases hseq
  exact ⟨hs.cfg, hs.nCascades, hs.nDevs, hs.limits, hs.slots, hs.liveness, hs.seq, hs.awaiting, hs.cleared, hs.settled⟩

theorem ExecutorShape.inv {s t : State} (h : ExecutorShape s t) (hs : s.Inv) : t.Inv := by
  obtain ⟨hcfg, hcas, hrec, hseq, hawait, hflags⟩ := s.inv_iff.mp hs
  obtain ⟨hpolls, hthreshold⟩ := Cfg.bounds_of_wf hcfg
  exact t.inv_iff.mpr ⟨h.cfg ▸ hcfg, h.cascadesOk hcas, h.recordsOk hrec hthreshold, h.seqOk hseq hpolls,
    h.awaitsExactly hawait hrec.1, h.flagsAgree hflags hrec.1⟩

theorem acceptCommand_inv {cmd : BitVec 128} {s t : State} (h : acceptCommand cmd s = .next t) (hs : s.Inv) : t.Inv := by
  obtain ⟨hcfg, hcas, hrec, hseq, hawait, hflags⟩ := s.inv_iff.mp hs
  have hc := acceptCommand_cfg h
  exact t.inv_iff.mpr ⟨hc ▸ hcfg, acceptCommand_cascadesOk h hcas, hrec.of_same (acceptCommand_devs h) hc,
    acceptCommand_seqOk h hseq, acceptCommand_awaitsExactly h hawait, acceptCommand_flagsAgree h hflags⟩

theorem notify_inv {a : Arrival} {s t : State} (h : notify a s = .next t) (hs : s.Inv) : t.Inv := by
  obtain ⟨hcfg, hcas, hrec, hseq, hawait, hflags⟩ := s.inv_iff.mp hs
  have hc := notify_cfg h
  obtain ⟨hd, hq, -⟩ := notify_frame h
  exact t.inv_iff.mpr ⟨hc ▸ hcfg, hcas.of_same hd hc, notify_recordsOk h hrec, seqOk_of_same hseq hd hc hq,
    notify_awaitsExactly h hawait, notify_flagsAgree h hflags⟩

theorem applyReset_inv {s : State} (hs : s.Inv) : s.applyReset.Inv :=
  (resetWith_inv hs.cfg).of_sameCore rfl rfl rfl rfl

/-- Settles O55, by the agent that moves: the executor, the host, the notifier or reset. -/
theorem everyStepKeepsTheInvariant : Obligations.EveryStepKeepsTheInvariant := by
  intro s t hs h
  have hbegin (rest : List Input) : (s.begin rest).Inv := hs.of_sameCore rfl rfl rfl rfl
  cases step_shape h with
  | executor _ he => exact he.inv (hbegin _)
  | command _ he => exact acceptCommand_inv he (hbegin _)
  | arrival _ he => exact notify_inv he (hbegin _)
  | reset => exact applyReset_inv (hbegin _)

end Sys2Proof.Machine
end

section
/-! PROOFS. What `pid.step` makes of one loop in the words of R128 and R129, the zeros of binary32, and the statements of the
family 41_pid.md about one command and about one loop. -/

namespace Sys2Proof.Machine

open Sys2Proof.Spec

/-! ### The commands that write one loop, and the one that reads it (R121, R125, R127, R130) -/

/-- `pid.configure` with the number of a mode (R21, R121). -/
theorem exec_pidConfigure {dev : Byte} {b : BitVec 2} {imm8 : Byte} {mode : PidMode} (h : PidMode.ofImm imm8 = some mode)
    (kp ki kd : F) (s : State) : exec (.pidConfigure dev b imm8 kp ki kd) s =
      onLoop dev b s (fun l => succeed 0 (s.modLoop dev.toNat l (configure mode kp ki kd))) := by
  simp only [exec, execPidConfigure, h]

/-- Settles O14: each of the three commands is a write to one loop. -/
theorem pidConfigureGainsAndClear : Obligations.PidConfigureGainsAndClear := by
  intro s dev b l kp ki kd hlen hd hb
  refine ⟨?_, ?_, writesLoop_onLoop hlen hd hb _, writesLoop_onLoop hlen hd hb zeroBuffers⟩
  · rw [exec_pidConfigure (mode := .increment) rfl]
    exact writesLoop_onLoop hlen hd hb (configure .increment kp ki kd)
  · rw [exec_pidConfigure (mode := .regular) rfl]
    exact writesLoop_onLoop hlen hd hb (configure .regular kp ki kd)

/-- Settles O17: `pid.output` answers a value and writes nothing. -/
theorem pidOutputReadsOut0 : Obligations.PidOutputReadsOut0 := by
  intro s dev b l hd hb
  have hexec : exec (.pidOutput dev b) s = succeed (s.loop dev.toNat l).out0 s := onLoop_of_mem hb hd _
  rw [hexec]
  exact endsUnchanged_succeed s _

/-! ### The limits tag (R126) -/

theorem F32.isNaN_abs (a : F) : F32.isNaN (F32.abs a) = F32.isNaN a := by
  have hmag : F32.mag (F32.abs a) = F32.mag a := by
    unfold F32.mag F32.abs
    rw [BitVec.toNat_and, show (0x7FFFFFFF#32).toNat = 2 ^ 31 - 1 from rfl, Nat.and_two_pow_sub_one_eq_mod, Nat.mod_mod]
  simp only [F32.isNaN, hmag]

/-- Whatever the subtraction may give, the tag's first test is that of its magnitude: a NaN is below nothing. -/
theorem sub?_any_lt {m : Num} {a b d : F} (h : Fsub m a b d) (eps : F) :
    (m.sub? a b).any (fun x => m.lt (m.abs x) eps) = m.lt (m.abs d) eps := by
  obtain hsome | ⟨hnone, hnan⟩ := h
  · rw [hsome]; rfl
  · cases m with
    | other n => cases hnone
    | binary32 =>
      have hlt : F32.lt (F32.abs d) eps = false := by simp [F32.lt, F32.isNaN_abs, hnan]
      rw [hnone]
      exact hlt.symm

/-- The tag by the difference of the limits, the Unlimited test first. -/
theorem limitOf_eq {g : Cfg} {max min d : F} (h : Fsub g.num max min d) : limitOf g max min =
    if g.num.lt (g.num.abs d) g.epsLimit then .unlimited else if g.num.lt max min then .collapsed else .bounded := by
  unfold limitOf
  rw [sub?_any_lt h]

/-- Settles O15: the tag written is the one the difference gives. -/
theorem pidSetLimitsTagsTheLimits : Obligations.PidSetLimitsTagsTheLimits := by
  intro s dev b l max min hlen hd hb
  refine ⟨limitOf s.cfg max min, writesLoop_onLoop hlen hd hb _, fun d hsub => ?_⟩
  rw [limitOf_eq hsub]
  exact ⟨fun h => by rw [if_pos h], fun h hlt => by simp [h, hlt], fun h hlt => by simp [h, hlt]⟩

/-! ### Saturation, clamping and accumulation (R128 step 2, R129) -/

theorem satHigh_iff (m : Num) (p : PidState) (v : F) : satHigh m p v = true ↔ BeyondHigh m p v := by
  unfold satHigh BeyondHigh
  cases p.lim <;> simp

theorem satLow_iff (m : Num) (p : PidState) (v : F) : satLow m p v = true ↔ BeyondLow m p v := by
  unfold satLow BeyondLow
  cases p.lim <;> simp

theorem clamp_clamped (m : Num) (p : PidState) (v : F) : Clamped m p v (clamp m p v) := by
  unfold clamp Clamped
  cases p.lim with
  | unlimited => simp
  | collapsed => simp
  | bounded => exact ⟨nofun, nofun, fun _ => ⟨fun h => by simp [h], fun h h' => by simp [h, h'], fun h h' => by simp [h, h']⟩⟩

/-- Step 2 accumulates exactly the errors that R128 admits. -/
theorem accumulates_iff (m : Num) (p : PidState) : accumulates m p = true ↔ Admits m p p.err0 := by
  unfold accumulates Admits
  rw [← satHigh_iff, ← satLow_iff]
  cases satHigh m p p.out1 <;> cases satLow m p p.out1 <;> simp

theorem integrate_eq (m : Num) (nan : Nat → F) (p : PidState) : integrate m nan p =
    { p with integralSum := if accumulates m p then m.add (nan 1) p.integralSum p.err0 else p.integralSum } := by
  unfold integrate
  split <;> rfl

/-! ### `pid.step` (R128) -/

/-- Steps 1 and 2 shift the errors and may write the accumulator. -/
theorem pidPrepare_eq (m : Num) (nan : Nat → F) (p : PidState) :
    pidPrepare m nan p = { shiftErr m nan p with integralSum := (pidPrepare m nan p).integralSum } := by
  unfold pidPrepare
  split
  · rw [integrate_eq]
  · rfl

/-- In Regular mode the accumulator takes the new error where R128 admits it. -/
theorem pidPrepare_integralSum_regular {m : Num} {nan : Nat → F} {p : PidState} (h : p.mode = .regular) :
    (Admits m p (shiftErr m nan p).err0 →
      (pidPrepare m nan p).integralSum = m.add (nan 1) p.integralSum (shiftErr m nan p).err0) ∧
    (¬ Admits m p (shiftErr m nan p).err0 → (pidPrepare m nan p).integralSum = p.integralSum) := by
  have hadmits : accumulates m (shiftErr m nan p) = true ↔ Admits m p (shiftErr m nan p).err0 := accumulates_iff ..
  simp only [pidPrepare, h, integrate_eq, ← hadmits]
  exact ⟨fun ha => if_pos ha, fun ha => if_neg ha⟩

@[simp] theorem pidPrepare_mode (m : Num) (nan : Nat → F) (p : PidState) : (pidPrepare m nan p).mode = p.mode := by
  rw [pidPrepare_eq, shiftErr_mode]

theorem pidLaw_regular {p : PidState} (h : p.mode = .regular) (m : Num) (nan : Nat → F) :
    pidLaw m nan p = regularLaw m nan p := by
  simp only [pidLaw, h]

theorem pidLaw_increment {p : PidState} (h : p.mode = .increment) (m : Num) (nan : Nat → F) :
    pidLaw m nan p = incrementLaw m nan p := by
  simp only [pidLaw, h]

theorem pidPrepare_increment {m : Num} {nan : Nat → F} {p : PidState} (h : p.mode = .increment) :
    pidPrepare m nan p = shiftErr m nan p := by
  simp only [pidPrepare, h]

/-- The step by what steps 1 and 2 prepare: the law's value, then the feedforward and the clamp. -/
theorem pidStep_eq (m : Num) (nan : Nat → F) (p : PidState) : pidStep m nan p =
    { p with
      err2 := p.err1, err1 := p.err0, err0 := (shiftErr m nan p).err0
      integralSum := (pidPrepare m nan p).integralSum
      out1 := pidLaw m nan (pidPrepare m nan p)
      out0 := clamp m p (m.add (nan 18) (pidLaw m nan (pidPrepare m nan p)) p.feedforward) } := by
  unfold pidStep
  dsimp only
  rw [pidPrepare_eq]
  rfl

/-- An operation's result, where the NaN it is given is one, is a result that R13 allows. -/
theorem floatResult_getD (o : Option F) {nan : F} (h : F32.isNaN nan = true) : FloatResult o (o.getD nan) := by
  obtain ho | ⟨ho, hn⟩ := Num.getD_cases o nan
  · exact .inl ho
  · exact .inr ⟨ho, by rwa [hn]⟩

section

variable {nan : Nat → F} (hnan : ∀ site, F32.isNaN (nan site) = true) (m : Num) (p : PidState)
include hnan

theorem regularLaw_regularLaw : RegularLaw m p p.err0 p.err1 p.integralSum (regularLaw m nan p) :=
  ⟨_, _, _, _, _, floatResult_getD _ (hnan 2), floatResult_getD _ (hnan 3), floatResult_getD _ (hnan 6),
    floatResult_getD _ (hnan 4), floatResult_getD _ (hnan 5), floatResult_getD _ (hnan 7)⟩

theorem incrementLaw_incrementLaw : IncrementLaw m p p.err0 p.err1 p.err2 (incrementLaw m nan p) :=
  ⟨_, _, _, _, _, _, _, _, _, floatResult_getD _ (hnan 8), floatResult_getD _ (hnan 9), floatResult_getD _ (hnan 10),
    floatResult_getD _ (hnan 11), floatResult_getD _ (hnan 12), floatResult_getD _ (hnan 13), floatResult_getD _ (hnan 14),
    floatResult_getD _ (hnan 15), floatResult_getD _ (hnan 16), floatResult_getD _ (hnan 17)⟩

/-- `pid.step` is a step of R128, whichever NaNs its operations return. -/
theorem pidStep_stepped : Stepped m p (pidStep m nan p) := by
  refine ⟨(shiftErr m nan p).err0, (pidPrepare m nan p).integralSum, pidLaw m nan (pidPrepare m nan p), _, _,
    floatResult_getD _ (hnan 0), fun hmode => ?_, fun hmode => ?_, floatResult_getD _ (hnan 18), clamp_clamped ..,
    pidStep_eq m nan p⟩
  · obtain ⟨hin, hout⟩ := pidPrepare_integralSum_regular (m := m) (nan := nan) hmode
    refine ⟨fun ha => hin ha ▸ floatResult_getD _ (hnan 1), hout, ?_⟩
    have hlaw := regularLaw_regularLaw hnan m (pidPrepare m nan p)
    rw [pidLaw_regular (by simpa using hmode)]
    rw [pidPrepare_eq] at hlaw ⊢
    exact hlaw
  · rw [pidLaw_increment (by simpa using hmode), pidPrepare_increment hmode]
    exact ⟨rfl, incrementLaw_incrementLaw hnan m (shiftErr m nan p)⟩

end

/-- Settles O16: the NaNs that a step draws are NaNs. -/
theorem pidStepFollowsTheSixSteps : Obligations.PidStepFollowsTheSixSteps :=
  fun s _ _ _ hlen hd hb =>
    ⟨_, pidStep_stepped (fun site => nan_isNaN s.draws site) s.cfg.num _, writesLoop_onLoop hlen hd hb _⟩

/-- Settles O19: an error that pushes further out is not admitted. -/
theorem antiWindupHoldsTheAccumulator : Obligations.AntiWindupHoldsTheAccumulator := by
  intro m nan p hmode
  obtain ⟨-, hout⟩ := pidPrepare_integralSum_regular (m := m) (nan := nan) hmode
  rw [pidStep_eq]
  refine ⟨fun hhigh he => hout ?_, fun hhigh hlow he => hout ?_⟩
  · rintro (⟨-, hlt⟩ | ⟨hno, -⟩ | ⟨hno, -⟩)
    · cases hlt.symm.trans he
    · exact hno hhigh
    · exact hno hhigh
  · rintro (⟨hyes, -⟩ | ⟨-, -, hgt⟩ | ⟨-, hno⟩)
    · exact hhigh hyes
    · cases hgt.symm.trans he
    · exact hno hlow

/-! ### The zeros of binary32 and a cleared loop (R131) -/

namespace F32

/-- The two zeros. -/
def zero (sign : Bool) : F := pack sign 0

theorem fZero_eq_zero : fZero = zero false := rfl

theorem zero_props (sign : Bool) : isNaN (zero sign) = false ∧ isInf (zero sign) = false ∧ neg (zero sign) = sign ∧
    units (zero sign) = 0 := by
  revert sign; decide

theorem add?_zero_zero (x y : Bool) : add? (zero x) (zero y) = some (zero (x && y)) := by
  revert x y; decide

theorem sub?_zero_zero (x y : Bool) : sub? (zero x) (zero y) = some (zero (x && !y)) := by
  revert x y; decide

theorem round_zero (sign : Bool) : round sign 0 (2 ^ 149) = zero sign := by
  have hmag : roundMag 0 (2 ^ 149) = 0 := by simp [roundMag, divNearest]
  rw [round, hmag, zero]

/-- A finite number times a zero is a zero. -/
theorem mul?_zero {a : F} (ha : isFinite a = true) (y : Bool) : mul? a (zero y) = some (zero (neg a != y)) := by
  obtain ⟨hnan, hinf, hneg, hunits⟩ := zero_props y
  simp only [isFinite, Bool.and_eq_true, Bool.not_eq_true'] at ha
  obtain ⟨ha, ha'⟩ := ha
  simp only [mul?, ha, ha', hnan, hinf, hneg, hunits, Nat.mul_zero, round_zero, Bool.or_self, Bool.false_eq_true, if_false]

end F32

@[simp] theorem add_zero_zero (nan : F) (x y : Bool) :
    Num.add .binary32 nan (F32.zero x) (F32.zero y) = F32.zero (x && y) := by
  rw [Num.add, Num.add?, F32.add?_zero_zero, Option.getD_some]

@[simp] theorem sub_zero_zero (nan : F) (x y : Bool) :
    Num.sub .binary32 nan (F32.zero x) (F32.zero y) = F32.zero (x && !y) := by
  rw [Num.sub, Num.sub?, F32.sub?_zero_zero, Option.getD_some]

@[simp] theorem mul_zero_of_finite {a : F} (ha : F32.isFinite a = true) (nan : F) (y : Bool) :
    Num.mul .binary32 nan a (F32.zero y) = F32.zero (F32.neg a != y) := by
  rw [Num.mul, Num.mul?, F32.mul?_zero ha, Option.getD_some]

/-- Steps 1 and 2 leave a cleared loop as it is: the new error and the accumulator are +0.0. -/
theorem pidPrepare_zeroBuffers (nan : Nat → F) (p : PidState) :
    pidPrepare .binary32 nan (zeroBuffers p) = zeroBuffers p := by
  have herr : Num.sub .binary32 (nan 0) fZero fZero = fZero := sub_zero_zero _ false false
  have hsum : Num.add .binary32 (nan 1) fZero fZero = fZero := add_zero_zero _ false false
  have hshift : shiftErr .binary32 nan (zeroBuffers p) = zeroBuffers p := by
    rw [shiftErr, zeroBuffers_setpoint, zeroBuffers_feedback, herr]
    rfl
  unfold pidPrepare
  rw [hshift]
  split
  · rw [integrate_eq, zeroBuffers_integralSum, zeroBuffers_err0, hsum, ite_self]
    rfl
  · rfl

section

variable (nan : Nat → F) {p : PidState} (hp : F32.isFinite p.kp = true) (hi : F32.isFinite p.ki = true)
  (hd : F32.isFinite p.kd = true)
include hp hi hd

/-- Each term of the positional law is a zero with its gain's sign (R128, R131). -/
theorem regularLaw_zeroBuffers : regularLaw .binary32 nan (zeroBuffers p) =
    F32.zero (F32.neg p.kp && F32.neg p.ki && F32.neg p.kd) := by
  simp [regularLaw, F32.fZero_eq_zero, hp, hi, hd]

/-- The incremental law starts from the output +0.0, to which it adds zeros. -/
theorem incrementLaw_zeroBuffers : incrementLaw .binary32 nan (zeroBuffers p) = F32.zero false := by
  have htwo : F32.isFinite (F32.ofInt 2) = true := F32.isFinite_ofInt (by norm_num)
  simp [incrementLaw, F32.fZero_eq_zero, hp, hi, hd, Num.ofInt, htwo]

/-- The law's value of a cleared loop with finite gains is a zero. -/
theorem pidLaw_zeroBuffers : ∃ sign, pidLaw .binary32 nan (zeroBuffers p) = F32.zero sign := by
  unfold pidLaw
  split
  · exact ⟨_, regularLaw_zeroBuffers nan hp hi hd⟩
  · exact ⟨_, incrementLaw_zeroBuffers nan hp hi hd⟩

end

/-- Zero is not clamped where it lies within the limits. -/
theorem clamp_fZero {m : Num} {p : PidState} (h : p.lim = .bounded → m.gt fZero p.max = false ∧ m.lt fZero p.min = false) :
    clamp m p fZero = fZero := by
  unfold clamp
  split
  · rfl
  · rfl
  · next hlim =>
    obtain ⟨hmax, hmin⟩ := h hlim
    simp [hmax, hmin]

/-- Settles O20: the law's value is a zero, and the feedforward +0.0 makes it +0.0, which is not clamped. -/
theorem clearedLoopStepsToZero : Obligations.ClearedLoopStepsToZero := by
  intro nan p hp hi hd hlim
  obtain ⟨sign, hlaw⟩ := pidLaw_zeroBuffers nan hp hi hd
  have hout : Num.add .binary32 (nan 18) (F32.zero sign) fZero = fZero := by
    rw [F32.fZero_eq_zero, add_zero_zero, Bool.and_false]
  rw [pidStep_eq, pidPrepare_zeroBuffers, hlaw, zeroBuffers_feedforward, hout]
  exact clamp_fZero (m := .binary32) (p := zeroBuffers p) hlim

end Sys2Proof.Machine
end

section
/-! PROOFS. `cas.calculate` as the chain of steps of R142, the shared body of the six setters, and the statements of the family
42_cascade.md. -/

namespace Sys2Proof.Machine

open Sys2Proof.Spec

/-! ### The families (R140) -/

theorem OpMode.family_eq_position_iff (o : OpMode) : o.family = .position ↔ o = .positionMode ∨ o = .positionFFMode := by
  cases o <;> simp [OpMode.family]

theorem OpMode.family_eq_velocity_iff (o : OpMode) : o.family = .velocity ↔ o = .velocityMode ∨ o = .velocityFFMode := by
  cases o <;> simp [OpMode.family]

theorem OpMode.family_eq_current_iff (o : OpMode) : o.family = .current ↔ o = .currentMode ∨ o = .currentFFMode := by
  cases o <;> simp [OpMode.family]

/-! ### `Calculate` (R142) -/

section

variable (m : Num) (nan : Nat → F) {c : Cascade}

theorem calculate_position (h : c.opmode.family = .position) :
    calculate m nan c = stageCur m nan (stageVel m nan (stagePos m nan c)) := by
  simp only [calculate, h]

theorem calculate_velocity (h : c.opmode.family = .velocity) : calculate m nan c = stageCur m nan (stageVel m nan c) := by
  simp only [calculate, h]

theorem calculate_current (h : c.opmode.family = .current) : calculate m nan c = stageCur m nan c := by
  simp only [calculate, h]

end

section

variable {nan : Nat → F} (hnan : ∀ site, F32.isNaN (nan site) = true) (m : Num) (c : Cascade)
include hnan

theorem isNaN_loopSites (l : Loop) (site : Nat) : F32.isNaN (loopSites nan l site) = true := by
  cases l <;> exact hnan _

/-- Each stage steps its loop, whichever NaNs its operations return; a later stage leaves what an earlier one has stepped. -/
theorem calculate_chained : Chained m c (calculate m nan c) := by
  have stepped (l : Loop) (p : PidState) : Stepped m p (pidStep m (loopSites nan l) p) :=
    pidStep_stepped (isNaN_loopSites hnan l) m p
  refine ⟨calculate_opmode m nan c, fun h => ?position, fun h => ?velocity, fun h => ?current⟩
  case position =>
    rw [calculate_position m nan (c.opmode.family_eq_position_iff.mpr h)]
    exact ⟨stepped .pos _, stepped .vel _, stepped .cur _⟩
  case velocity =>
    rw [calculate_velocity m nan (c.opmode.family_eq_velocity_iff.mpr h)]
    exact ⟨rfl, stepped .vel _, stepped .cur _⟩
  case current =>
    rw [calculate_current m nan (c.opmode.family_eq_current_iff.mpr h)]
    exact ⟨rfl, rfl, stepped .cur _⟩

end

theorem onCascade_of_devBelow {dev : Byte} {s : State} (hd : dev.toNat < s.cfg.nDev) (act : Out) : onCascade dev s act = act :=
  if_pos hd

/-- `cas.calculate` on an existing cascade writes that cascade and answers its current loop's output. -/
theorem exec_casCalculate {dev : Byte} {s : State} (hlen : s.cascades.length = s.cfg.nDev) (hd : dev.toNat < s.cfg.nDev) :
    exec (.casCalculate dev) s =
      succeed (calculate s.cfg.num s.nan (s.cascade dev.toNat)).cur.out0
        (s.modCascade dev.toNat (calculate s.cfg.num s.nan)) := by
  rw [← cascade_modCascade_same s dev.toNat (calculate s.cfg.num s.nan) (hlen ▸ hd)]
  exact onCascade_of_devBelow hd _

/-- Settles O22: the NaNs that a calculation draws are NaNs. -/
theorem casCalculateChainsTheLoops : Obligations.CasCalculateChainsTheLoops := by
  intro s dev hlen hd
  exact ⟨_, _, exec_casCalculate hlen hd, calculate_chained (nan_isNaN s.draws) s.cfg.num _,
    onlyCascade_respond s _ (hlen ▸ hd) .., ends_success rfl _, ⟨rfl, rfl, rfl, rfl, rfl⟩⟩

/-! ### The setters of the outermost loop (R143 to R148) -/

theorem exists_mem_loopRows (l : Loop) : ∃ b, (b, l) ∈ loopRows := by
  cases l <;> simp [loopRows]

section

variable {dev : Byte} {mode : OpMode} {s : State}

/-- In its one mode a setter makes the same write to a loop as a `pid.*` command. -/
theorem writesLoop_setOutermost (hlen : s.cascades.length = s.cfg.nDev) (hd : dev.toNat < s.cfg.nDev)
    (hmode : (s.cascade dev.toNat).opmode = mode) (l : Loop) (f : PidState → PidState) :
    WritesLoop (setOutermost dev mode l f s) s dev.toNat l (f (s.loop dev.toNat l)) := by
  obtain ⟨b, hb⟩ := exists_mem_loopRows l
  have hwrite := writesLoop_onLoop hlen hd hb f
  rw [onLoop_of_mem hb hd] at hwrite
  rwa [setOutermost, onCascade_of_devBelow hd, if_pos hmode]

theorem endsUnchanged_setOutermost (hd : dev.toNat < s.cfg.nDev) (hmode : (s.cascade dev.toNat).opmode ≠ mode) (l : Loop)
    (f : PidState → PidState) : EndsUnchanged (setOutermost dev mode l f s) s .modeMismatch 0 := by
  rw [setOutermost, onCascade_of_devBelow hd, if_neg hmode]
  exact endsUnchanged_failWith s .modeMismatch

end

/-- Settles O23: each setter is the shared body with its own mode and that mode's outermost loop. -/
theorem casSettersWriteTheOutermostLoop : Obligations.CasSettersWriteTheOutermostLoop := by
  intro s dev v ff hlen hd c mode
  have writes {m : OpMode} (h : mode = m) := writesLoop_setOutermost hlen hd h
  exact ⟨fun h => writes h .cur _, fun h => writes h .vel _, fun h => writes h .pos _, fun h => writes h .cur _,
    fun h => writes h .vel _, fun h => writes h .pos _⟩

/-- Settles O24: the shared body refuses every mode but its own. -/
theorem casSettersRefuseOtherModes : Obligations.CasSettersRefuseOtherModes := by
  intro s dev v ff hd
  have refuses {m : OpMode} (h : (s.cascade dev.toNat).opmode ≠ m) := endsUnchanged_setOutermost hd h
  simp only [List.forall_mem_cons]
  exact ⟨fun h => refuses h .cur _, fun h => refuses h .vel _, fun h => refuses h .pos _, fun h => refuses h .cur _,
    fun h => refuses h .vel _, fun h => refuses h .pos _, nofun⟩

end Sys2Proof.Machine
end

section
/-! PROOFS. `Find` under a well-formed configuration, the words of `reg.read` against the table of R47, and the statements of the
family 43_registry.md. -/

namespace Sys2Proof.Machine

open Sys2Proof.Spec

/-! ### `Find` (R160) -/

theorem Cfg.devId_nodup_of_wf {c : Cfg} (h : c.wf = true) : c.devId.Nodup := by
  simp only [Cfg.wf, Bool.and_eq_true, decide_eq_true_eq] at h
  obtain ⟨⟨⟨⟨⟨⟨⟨⟨-, hnodup⟩, -⟩, -⟩, -⟩, -⟩, -⟩, -⟩, -⟩ := h
  exact hnodup

section

variable {s : State} {id j k : Nat}

/-- Distinct devices have distinct identifiers (R9). -/
theorem devId_inj (hw : s.cfg.wf = true) (hj : j < s.cfg.nDev) (hk : k < s.cfg.nDev) : s.devId j = s.devId k ↔ j = k := by
  rw [State.devId, State.devId, List.getD_eq_getElem _ _ hj, List.getD_eq_getElem _ _ hk]
  exact (Cfg.devId_nodup_of_wf hw).getElem_inj_iff

theorem find_eq_none_iff : s.find id = none ↔ ∀ k, k < s.cfg.nDev → s.devId k ≠ id := by
  constructor
  · rintro hnone k hk rfl
    exact find_none.mp hnone (devId_mem hk)
  · intro h
    cases hf : s.find id with
    | none => rfl
    | some k =>
      obtain ⟨hk, hid⟩ := find_some hf
      exact absurd hid (h k hk)

/-- The index that `Find` answers is the only one with the identifier. -/
theorem find_eq_some_iff (hw : s.cfg.wf = true) : s.find id = some k ↔ k < s.cfg.nDev ∧ s.devId k = id := by
  refine ⟨find_some, fun ⟨hk, hid⟩ => ?_⟩
  cases hf : s.find id with
  | none => exact absurd hid (find_eq_none_iff.mp hf k hk)
  | some j =>
    obtain ⟨hj, hid'⟩ := find_some hf
    rw [(devId_inj hw hj hk).mp (hid'.trans hid.symm)]

end

theorem onDevice_of_find_none {dev : Byte} {s : State} (h : s.find dev.toNat = none) (act : Nat → Out) :
    onDevice dev s act = failWith .deviceNotFound s := by
  simp only [onDevice, h]

/-- Settles O32: `Find` answers the one index with the identifier, and `reg.find` what `Find` answers. -/
theorem regFindAnswersTheIndex : Obligations.RegFindAnswersTheIndex := by
  intro s dev hw
  refine ⟨fun k hk hid => ?_, fun hno => ?_⟩
  · have hfind := (find_eq_some_iff hw).mpr ⟨hk, hid⟩
    have hexec : exec (.regFind dev) s = succeed (BitVec.ofNat 32 k) s := onDevice_of_find hfind _
    exact hexec ▸ endsUnchanged_succeed s _
  · have hexec : exec (.regFind dev) s = failWith .deviceNotFound s := onDevice_of_find_none (find_eq_none_iff.mpr hno) _
    exact hexec ▸ endsUnchanged_failWith s _

/-! ### The fields of a record (R47) -/

theorem Live.code_eq (l : Live) : l.code = if l = .online then 1 else 0 := by cases l <;> rfl

theorem Ack.code_eq (a : Ack) : a.code = if a = .success then 1 else if a = .fail then 2 else 0 := by cases a <;> rfl

theorem Phase.code_eq (p : Phase) : p.code =
    if p = .idle then 0 else if p = .awaitingAck then 1 else if p = .acked then 2 else if p = .failed then 3 else 4 := by
  cases p <;> rfl

/-- The list of the fields' words is the table of R47: each field number names the word at its place. -/
theorem fieldWords_getD (id : Nat) (r : ActuatorRecord) {n : Nat} (hn : n ≤ 31) :
    (fieldWords id r).getD n 0 = fieldOf id r n := by
  rw [fieldWords, Live.code_eq, Ack.code_eq, Phase.code_eq]
  interval_cases n <;> rfl

/-! ### `reg.read` (R162) -/

theorem execRegRead_illegal {field : Byte} (h : 31 < field.toNat) (dev : Byte) (s : State) :
    execRegRead dev field s = illegal s :=
  if_pos h

/-- A field number of the table goes on to the lookup, and an identifier that is found to its record's field. -/
theorem execRegRead_eq {field : Byte} (h : field.toNat ≤ 31) (dev : Byte) (s : State) :
    execRegRead dev field s = onDevice dev s (fun k => succeed (fieldOf (s.devId k) (s.dev k) field.toNat) s) := by
  simp only [execRegRead, if_neg (not_lt.mpr h), fieldWords_getD _ _ h]

/-- Settles O33: the field number is checked before the lookup, which finds a device with the identifier asked for. -/
theorem regReadAnswersTheField : Obligations.RegReadAnswersTheField := by
  intro s dev field
  refine ⟨fun h => ?_, fun h hnone => ?_, fun k h hfind => ?_⟩
  · have hexec : exec (.regRead dev field) s = illegal s := execRegRead_illegal h dev s
    exact hexec ▸ endsUnchanged_failWith s _
  · have hexec : exec (.regRead dev field) s = failWith .deviceNotFound s :=
      (execRegRead_eq h dev s).trans (onDevice_of_find_none hnone _)
    exact hexec ▸ endsUnchanged_failWith s _
  · have hexec : exec (.regRead dev field) s = succeed (fieldOf (s.devId k) (s.dev k) field.toNat) s :=
      (execRegRead_eq h dev s).trans (onDevice_of_find hfind _)
    obtain ⟨-, hid⟩ := find_some hfind
    rw [hexec, hid]
    exact endsUnchanged_succeed s _

end Sys2Proof.Machine
end

section
/-! PROOFS. Each step of an exchange as an equation, what it writes, the frames that the calls build, and the statements of the
family 44_protocol_engine.md about one step of the executor. -/

namespace Sys2Proof.Machine

open Sys2Proof.Spec

@[simp] theorem begin_devId (s : State) (rest : List Input) (k : Nat) : (s.begin rest).devId k = s.devId k := rfl

/-! ### A write to one record -/

/-- Where a step wrote one record of the registry, that record became what the write says and the others are as before. -/
theorem dev_of_modify {s t : State} {k : Nat} {f : ActuatorRecord → ActuatorRecord} (hk : k < s.devs.length)
    (hd : t.devs = s.devs.modify k f) (hc : t.cfg = s.cfg) : t.dev k = f (s.dev k) ∧ ∀ j, j ≠ k → t.dev j = s.dev j := by
  have hdev := dev_congr (s := s.modDev k f) hd hc
  exact ⟨(hdev k).trans (dev_modDev_same s k f hk), fun j hj => (hdev j).trans (dev_modDev_other s f hj)⟩

theorem onlyRecord_of_modify {s t : State} {k : Nat} {f : ActuatorRecord → ActuatorRecord} (hk : k < s.devs.length)
    (hd : t.devs = s.devs.modify k f) (hc : t.cfg = s.cfg) (hcas : t.cascades = s.cascades) :
    OnlyRecord s t k (f (s.dev k)) := by
  obtain ⟨hsame, hother⟩ := dev_of_modify hk hd hc
  exact ⟨hsame, hother, hcas⟩

/-! ### The executor's step at each point (R67) -/

section

variable {s : State} {call : Call} {x k n : Nat} {rest : List Input}

theorem begin_seq_of_at {p : Point} (hat : At s call x p k n) (rest : List Input) : (s.begin rest).seq = .busy call x p k n := hat

theorem step_s2 (hat : At s call x .s2 k n) (hm : ExecutorMoves s rest) :
    step s = .next (clearStep call x k (s.begin rest)) := by
  simp only [step_of_executorMoves hm, executorStep, begin_seq_of_at hat rest]

theorem step_s3 (hat : At s call x .s3 k n) (hm : ExecutorMoves s rest) :
    step s = .next (transmitStep call x k (s.begin rest)) := by
  simp only [step_of_executorMoves hm, executorStep, begin_seq_of_at hat rest]

theorem step_poll (hat : At s call x .poll k n) (hm : ExecutorMoves s rest) :
    step s = .next (pollStep call x k n (s.begin rest)) := by
  simp only [step_of_executorMoves hm, executorStep, begin_seq_of_at hat rest]

theorem step_s4 (hat : At s call x .s4 k n) (hm : ExecutorMoves s rest) : step s = decodeStep call x k n (s.begin rest) := by
  simp only [step_of_executorMoves hm, executorStep, begin_seq_of_at hat rest]

theorem step_s5 (hat : At s call x .s5 k n) (hm : ExecutorMoves s rest) :
    step s = .next (settleStep call x k (s.begin rest)) := by
  simp only [step_of_executorMoves hm, executorStep, begin_seq_of_at hat rest]

theorem step_s5a (hat : At s call x .s5a k n) (hm : ExecutorMoves s rest) : step s = .next (exhaustedStep k (s.begin rest)) := by
  simp only [step_of_executorMoves hm, executorStep, begin_seq_of_at hat rest]

end

/-! ### `S1` with the bus busy (R172 corner case (a)) -/

theorem sampleBus_busy {s : State} (h : s.busFreeAnswer = false) (call : Call) (x k : Nat) :
    sampleBus call x k s = s.askBusFree.respond .busBusy 0 := by
  simp only [sampleBus, h, Bool.false_eq_true, if_false]

/-- A call that finds the bus busy has asked it, shows `BusBusy`, and leaves every register. -/
theorem busBusy_response {s : State} (h : s.busFreeAnswer = false) :
    Shows (s.askBusFree.respond .busBusy 0) .busBusy 0 ∧
      (s.askBusFree.respond .busBusy 0).history = .result ⟨.busBusy, 0⟩ :: .busFree false :: s.history := by
  obtain ⟨-, hshows, hhist⟩ := ends_respond (s := s.askBusFree) rfl (r := .busBusy) (v := 0) fun _ => rfl
  rw [askBusFree_history, h] at hhist
  exact ⟨hshows, hhist⟩

/-- Settles O35: a first exchange and a later one both stand at `S1`, which ends the call. -/
theorem busyBusEndsTheCall : Obligations.BusyBusEndsTheCall := by
  refine ⟨fun s i call k hst hbusy => ?_, fun s call x k n rest hat hm hbusy => ?_⟩
  · rw [exec_of_starts hst, start, sampleBus_busy hbusy]
    obtain ⟨hshows, hhist⟩ := busBusy_response hbusy
    exact ⟨_, rfl, ⟨rfl, rfl⟩, rfl, hshows, hhist, rfl, rfl⟩
  · rw [step_s1 hat hm, sampleBus_busy hbusy]
    obtain ⟨hshows, hhist⟩ := busBusy_response hbusy
    exact ⟨_, rfl, ⟨rfl, rfl⟩, rfl, hshows, hhist, rfl, rfl, rfl, rfl⟩

/-! ### `S2` (R172) -/

/-- Settles O37: the step is the write of `clearFlags` to the one record. -/
theorem clearStepClearsAckAndFresh : Obligations.ClearStepClearsAckAndFresh := by
  intro s call x k n rest hat hm hk
  exact ⟨_, step_s2 hat hm, onlyRecord_of_modify (f := clearFlags) hk rfl rfl rfl, rfl, rfl, rfl, rfl, rfl, rfl, rfl⟩

/-! ### The frames (R171, R92, R212) -/

/-- Settles O39: each call names its kind and its payload, and the word's bytes are those of R93. -/
theorem callsBuildTheFramesOfR92 : Obligations.CallsBuildTheFramesOfR92 := by
  intro s k v b kind a c dlc
  refine ⟨rfl, rfl, rfl, rfl, rfl, rfl, rfl, rfl, rfl, rfl, rfl, rfl, rfl, ?driveCycle, rfl⟩
  case driveCycle =>
    rintro rfl
    rfl

/-! ### `S3` (R172, R205) -/

section

variable {s : State}

theorem transmitStep_taken (h : s.busTxAnswer = true) (call : Call) (x k : Nat) : transmitStep call x k s =
    ((s.handToBus ⟨s.devId k, frameBytes s call x k⟩).modDev k
      (fun r => noteCommanded s call x k (setPhase .awaitingAck r))).goTo call x .poll k 0 :=
  if_pos h

theorem transmitStep_refused (h : s.busTxAnswer = false) (call : Call) (x k : Nat) : transmitStep call x k s =
    ((s.handToBus ⟨s.devId k, frameBytes s call x k⟩).modDev k (setPhase .idle)).respond .transmitFailure 0 := by
  simp only [transmitStep, h, Bool.false_eq_true, if_false]

theorem transmitStep_ports (call : Call) (x k : Nat) (s : State) :
    (transmitStep call x k s).busTx = s.busTx.tail ∧
    (transmitStep call x k s).busFree = s.busFree ∧ (transmitStep call x k s).inputs = s.inputs := by
  unfold transmitStep
  dsimp only
  split <;> exact ⟨rfl, rfl, rfl⟩

theorem noteCommanded_drive {call : Call} {x : Nat} (hc : call = .driveCycle) (hx : x = 3) (k : Nat) (r : ActuatorRecord) :
    noteCommanded s call x k r = { r with cmdCurrent := (s.loop k .cur).out0 } := by
  subst hc hx
  rfl

/-- A frame that carries no commanded value leaves the last-commanded fields (R205). -/
theorem noteCommanded_none {call : Call} {x : Nat}
    (hset : ∀ v, call ≠ .setCurrent v ∧ call ≠ .setSpeed v ∧ call ≠ .setPosition v)
    (hdrive : ¬ (call = .driveCycle ∧ x = 3)) (k : Nat) (r : ActuatorRecord) : noteCommanded s call x k r = r := by
  cases call with
  | setCurrent v => exact absurd rfl (hset v).1
  | setSpeed v => exact absurd rfl (hset v).2.1
  | setPosition v => exact absurd rfl (hset v).2.2
  | driveCycle => exact if_neg fun hx => hdrive ⟨rfl, hx⟩
  | _ => rfl

end

/-- Settles O38, by the bus's answer: the frame is taken, and the record is that of the wait with what the frame commands; or it is
refused, and the call ends. -/
theorem transmitStepHandsOverOneFrame : Obligations.TransmitStepHandsOverOneFrame := by
  intro s call x k n rest hat hm hk frame sent
  have hports := transmitStep_ports call x k (s.begin rest)
  obtain ⟨hans, hseq, hd⟩ | ⟨hans, hseq, hd⟩ := transmitStep_cases call x k (s.begin rest)
  all_goals
    obtain ⟨hdev, hother⟩ := dev_of_modify (s := s) hk hd (transmitStep_cfg ..)
    obtain ⟨htx, hfree, hinputs⟩ := hports
    refine ⟨_, step_s3 hat hm, transmitStep_cascades .., hother, htx, hfree, transmitStep_cfg .., hinputs, ?_⟩
    rw [hans]
  · refine ⟨fun _ => ⟨?history, hseq, ?rsp, ?current, ?speed, ?position, ?drive, ?none⟩, nofun⟩
    case history => rw [transmitStep_taken hans, goTo_history, modDev_history, handToBus_history, hans]; rfl
    case rsp => rw [transmitStep_taken hans]; rfl
    case current => rintro v rfl; exact hdev
    case speed => rintro v rfl; exact hdev
    case position => rintro v rfl; exact hdev
    case drive => exact fun hc hx => hdev.trans (noteCommanded_drive hc hx k _)
    case none => exact fun hset hdrive => hdev.trans (noteCommanded_none hset hdrive k _)
  · obtain ⟨-, hshows, hhist⟩ := ends_respond (r := .transmitFailure) (v := 0)
      (t := ((s.begin rest).handToBus frame).modDev k (setPhase .idle)) rfl fun _ => rfl
    rw [modDev_history, handToBus_history, hans] at hhist
    rw [transmitStep_refused hans] at hdev ⊢
    exact ⟨nofun, fun _ => ⟨hhist, rfl, hshows, hdev⟩⟩

/-! ### The poll (R173) -/

/-- Settles O40, by the three things a poll can do. -/
theorem pollTestsTheFlagBeforeTheCount : Obligations.PollTestsTheFlagBeforeTheCount := by
  intro s call x k n rest hat hm
  rw [step_poll hat hm]
  obtain ⟨hf, he⟩ | ⟨hf, hlt, he⟩ | ⟨hf, hle, he⟩ := pollStep_cases call x k n (s.begin rest) <;>
    rw [begin_dev] at hf <;> rw [he, hf]
  · exact ⟨_, rfl, ⟨rfl, rfl⟩, rfl, rfl, ⟨rfl, rfl, rfl, rfl⟩, fun _ => rfl, nofun, nofun⟩
  · exact ⟨_, rfl, ⟨rfl, rfl⟩, rfl, rfl, ⟨rfl, rfl, rfl, rfl⟩, nofun, fun _ _ => rfl,
      fun _ h => absurd hlt (not_lt.mpr h)⟩
  · exact ⟨_, rfl, ⟨rfl, rfl⟩, rfl, rfl, ⟨rfl, rfl, rfl, rfl⟩, nofun, fun _ h => absurd hle (not_le.mpr h),
      fun _ _ => rfl⟩

/-! ### `S5` and `S5a` (R172, R176, R177) -/

theorem countsAFailure_failBook (c : Cfg) (p : Phase) (r : ActuatorRecord) :
    CountsAFailure c r (failBook c.offlineThreshold (setPhase p r)) :=
  ⟨bumpFailCnt_toNat r.failCnt, fun h => if_pos h, fun h => if_neg (not_le.mpr h)⟩

/-- Settles O42: the step is the write of `timeOut` to the one record, and the end of the call. -/
theorem exhaustedStepKeepsTheBooks : Obligations.ExhaustedStepKeepsTheBooks := by
  intro s call x k n rest hat hm hk
  obtain ⟨hdev, hother⟩ := dev_of_modify (s := s) (t := exhaustedStep k (s.begin rest)) (f := timeOut s.cfg) hk rfl rfl
  refine ⟨_, step_s5a hat hm, rfl, hother, ⟨rfl, rfl, rfl, rfl⟩, ends_respond rfl fun _ => rfl, ?_⟩
  rw [hdev]
  exact ⟨countsAFailure_failBook s.cfg .timedOut (s.dev k), rfl⟩

/-- A call of one exchange ends in Success when the exchange has succeeded. -/
theorem afterSuccess_of_single {call : Call} (h : call.exchanges = 1) (x k : Nat) (s : State) :
    afterSuccess call x k s = s.respond .success 0 := by
  cases call with
  | setMode | setPower | driveCycle => cases h
  | _ => rfl

theorem driveCascade_ports (k : Nat) (s : State) : SamePorts s (driveCascade k s) s.inputs := by
  unfold driveCascade
  dsimp only
  split <;> exact ⟨rfl, rfl, rfl, rfl⟩

/-- Going on after an exchange asks nothing of the bus. -/
theorem afterSuccess_ports (call : Call) (x k : Nat) (s : State) : SamePorts s (afterSuccess call x k s) s.inputs := by
  have same : SamePorts s s s.inputs := ⟨rfl, rfl, rfl, rfl⟩
  cases call with
  | setMode | setPower =>
    simp only [afterSuccess]
    split
    · exact same
    · split <;> exact same
  | driveCycle =>
    simp only [afterSuccess]
    split
    · exact same
    · split
      · exact driveCascade_ports k s
      · exact same
  | _ => exact same

theorem settleStep_ports (call : Call) (x k : Nat) (s : State) : SamePorts s (settleStep call x k s) s.inputs := by
  obtain ⟨-, he⟩ | ⟨-, he⟩ | ⟨-, he⟩ := settleStep_cases call x k s <;> rw [he]
  · exact afterSuccess_ports call x k (s.modDev k (settle s.cfg))
  · exact ⟨rfl, rfl, rfl, rfl⟩
  · exact ⟨rfl, rfl, rfl, rfl⟩

section

variable {c : Cfg} {r : ActuatorRecord}

theorem settle_of_success (h : r.ack = .success) : settle c r = okBook (setPhase .acked r) := by simp only [settle, h]

theorem settle_of_fail (h : r.ack = .fail) : settle c r = failBook c.offlineThreshold (setPhase .failed r) := by
  simp only [settle, h]

theorem settle_of_clear (h : r.ack = .clear) : settle c r = failBook c.offlineThreshold (setPhase .timedOut r) := by
  simp only [settle, h]

end

/-- Settles O41, by `ack`: the books are what `settle` makes of the record, and both failures end the call at once. -/
theorem settleStepKeepsTheBooks : Obligations.SettleStepKeepsTheBooks := by
  intro s call x k n rest hat hm hk
  obtain ⟨hd, hc⟩ := settleStep_frame call x k (s.begin rest)
  obtain ⟨hdev, hother⟩ := dev_of_modify (s := s) hk hd hc
  refine ⟨_, step_s5 hat hm, hother, settleStep_ports call x k (s.begin rest), ?_⟩
  rw [hdev]
  obtain ⟨hack, he⟩ | ⟨hack, he⟩ | ⟨hack, he⟩ := settleStep_cases call x k (s.begin rest) <;>
    rw [begin_dev] at hack <;> rw [he, hack]
  · rw [settle_of_success hack]
    refine ⟨fun _ => ⟨rfl, fun hsingle => ?_⟩, fun h => absurd rfl h, nofun, nofun⟩
    rw [afterSuccess_of_single hsingle]
    exact ⟨rfl, ends_success rfl 0⟩
  · rw [settle_of_fail hack]
    exact ⟨nofun, fun _ => ⟨rfl, countsAFailure_failBook .., rfl⟩, fun _ => ⟨rfl, ends_respond rfl fun _ => rfl⟩, nofun⟩
  · rw [settle_of_clear hack]
    exact ⟨nofun, fun _ => ⟨rfl, countsAFailure_failBook .., rfl⟩, nofun, fun _ => ⟨rfl, ends_respond rfl fun _ => rfl⟩⟩

/-! ### The liveness (R36, R176, R177) -/

@[simp] theorem noteCommanded_live (s : State) (call : Call) (x k : Nat) (r : ActuatorRecord) :
    (noteCommanded s call x k r).live = r.live := by
  obtain ⟨_, _, _, h⟩ := noteCommanded_frame s call x k r
  rw [h]

theorem failBook_offline {r : ActuatorRecord} (h : r.live = .offline) (n : Nat) : (failBook n r).live = .offline := by
  rw [failBook_live, h, ite_self]

/-- The executor brings a device Online only where it settles an exchange with it that ended in Success. -/
theorem ExecutorShape.online {s t : State} (h : ExecutorShape s t) {j : Nat} (hoff : (s.dev j).live = .offline)
    (hon : (t.dev j).live = .online) : (s.dev j).ack = .success ∧ ∃ call x n, At s call x .s5 j n := by
  have kept (hd : t.devs = s.devs) : False := by
    rw [dev_congr hd h.cfg, hoff] at hon
    cases hon
  have written {k : Nat} {f : ActuatorRecord → ActuatorRecord} (hd : t.devs = s.devs.modify k f) :
      j = k ∧ (f (s.dev k)).live = .online := by
    rw [dev_congr (s := s.modDev k f) hd h.cfg] at hon
    obtain he | ⟨hj, he⟩ := dev_modDev_cases s k j f <;> rw [he] at hon
    · cases hoff.symm.trans hon
    · exact ⟨hj, hon⟩
  have keptLive {k : Nat} {f : ActuatorRecord → ActuatorRecord} (hd : t.devs = s.devs.modify k f)
      (hf : (s.dev k).live = .offline → (f (s.dev k)).live = .offline) : False := by
    obtain ⟨rfl, hl⟩ := written hd
    cases (hf hoff).symm.trans hl
  cases h with
  | idle => exact (kept rfl).elim
  | sample | poll => exact (kept (by simp)).elim
  | clear => exact (keptLive (f := clearFlags) rfl id).elim
  | @transmit call x k n hq =>
    obtain ⟨-, -, hd⟩ | ⟨-, -, hd⟩ := transmitStep_cases call x k s
    · exact (keptLive hd fun hl => by simpa using hl).elim
    · exact (keptLive hd id).elim
  | @decode call x k n f hq hf =>
    obtain ⟨-, -, hlive, -, -⟩ := hf (s.dev k)
    exact (keptLive rfl fun hl => hlive.trans hl).elim
  | @settle call x k n hq =>
    have hd := (settleStep_frame call x k s).1
    cases hack : (s.dev k).ack with
    | success =>
      obtain ⟨rfl, -⟩ := written hd
      exact ⟨hack, call, x, n, hq⟩
    | fail => exact (keptLive hd fun hl => by rw [settle_of_fail hack]; exact failBook_offline hl _).elim
    | clear => exact (keptLive hd fun hl => by rw [settle_of_clear hack]; exact failBook_offline hl _).elim
  | exhaust => exact (keptLive (f := timeOut s.cfg) rfl fun hl => failBook_offline hl _).elim

/-- Settles O57, by the agent that moves: only the executor brings a device Online. -/
theorem onlyASuccessfulExchangeBringsADeviceOnline : Obligations.OnlyASuccessfulExchangeBringsADeviceOnline := by
  intro s t k _ _ h hoff hon
  cases step_shape h with
  | executor hi he => exact he.online hoff hon
  | command hi he =>
    rw [dev_congr (acceptCommand_devs he) (acceptCommand_cfg he), begin_dev, hoff] at hon
    cases hon
  | @arrival a rest _ hi he =>
    obtain ⟨-, -, hd | ⟨j, -, hd⟩⟩ := notify_frame he
    · rw [dev_congr hd (notify_cfg he), begin_dev, hoff] at hon
      cases hon
    · have hlive := dev_modDev_field ActuatorRecord.live (f := receive a) (fun _ => rfl) (s.begin rest) j k
      have hc : t.cfg = (s.begin rest).cfg := notify_cfg he
      rw [dev_congr (s := (s.begin rest).modDev j (receive a)) hd hc, hlive, begin_dev, hoff] at hon
      cases hon
  | reset hi =>
    rw [applyReset_dev] at hon
    cases hon

end Sys2Proof.Machine
end

section
/-! PROOFS. What decoding an answer of each class writes, and the statements of the family 44_protocol_engine.md about `S4`. -/

namespace Sys2Proof.Machine

open Sys2Proof.Spec

/-! ### The decode classes (R92, R179, R181 to R184) -/

section

variable {s : State} {call : Call} {x k n : Nat}

/-- At `S4` a decoding writes the record of the device waited on (R178). -/
theorem decodeInto_of_s4 (hat : At s call x .s4 k n) (f : ActuatorRecord → ActuatorRecord) :
    decodeInto f s = .next (s.modDev k f) := by
  have hq : s.seq = .busy call x .s4 k n := hat
  simp only [decodeInto, State.decoding, hq]

theorem decodes_of_decodeInto (hat : At s call x .s4 k n) (hk : k < s.devs.length) {i : Instr}
    {f : ActuatorRecord → ActuatorRecord} (he : exec i s = decodeInto f s) : Decodes i s k (f (s.dev k)) :=
  ⟨s.modDev k f, he.trans (decodeInto_of_s4 hat f), onlyRecord_of_modify hk rfl rfl rfl, ⟨rfl, rfl, rfl, rfl, rfl⟩, rfl, rfl,
    rfl⟩

end

section

variable {s : State} {ans : Answer}

theorem decodeStatus_ok (h : ans.d1 = s.cfg.statusOk) :
    decodeStatus ans s = decodeInto (fun r => { r with ack := .success }) s := by
  simp only [decodeStatus, ackOfStatus, if_pos h]

theorem decodeStatus_fail (h : ans.d1 ≠ s.cfg.statusOk) :
    decodeStatus ans s = decodeInto (fun r => { r with ack := .fail }) s := by
  simp only [decodeStatus, ackOfStatus, if_neg h]

end

/-- An answer of a Q24 kind writes the field of the kind and `ack`, or nothing where its length is wrong (R181, R182). -/
theorem exec_ofAnswer_q24 {kind : FrameKind} (h : kind ∈ q24Kinds) (a : Arrival) (s : State) :
    exec (.ofAnswer (a.d.answer a.dlc) kind) s =
      decodeInto (fun r => if a.dlc = 5 then { Telemetry s.cfg.num kind a r with ack := .success } else r) s := by
  fin_cases h <;> rfl

/-- Decoding a frame that acknowledges writes the field of its kind and `ack` Success (R179, R181, R183, R184). -/
theorem exec_ofAnswer_of_acknowledges {kind : FrameKind} {a : Arrival} {s : State} (h : Acknowledges s.cfg kind a) :
    exec (.ofAnswer (a.d.answer a.dlc) kind) s =
      decodeInto (fun r => { Telemetry s.cfg.num kind a r with ack := .success }) s := by
  obtain ⟨-, hstatus, hlength⟩ := h
  by_cases hq : kind ∈ q24Kinds
  · simp only [exec_ofAnswer_q24 hq, if_pos (hlength hq)]
  · cases kind with
    | handshake | setMode | setPower | setCurrent | setSpeed | setPosition | setCurOutUpper | setCurOutLower | setSpdOutUpper
    | setSpdOutLower | setPosOutUpper | setPosOutLower => exact decodeStatus_ok (hstatus (by decide))
    | getMotorTemp | getInverterTemp | getMode | getPower | getExceptions | getShutdownState => rfl
    | _ => exact absurd (by decide) hq

/-- Settles O46: each of the twelve kinds is a STATUS decoding. -/
theorem statusAnswersSetAck : Obligations.StatusAnswersSetAck := by
  intro s call x k n ans hat hk
  have status {i : Instr} (he : exec i s = decodeStatus ans s) :
      (ans.d1 = s.cfg.statusOk → Decodes i s k { s.dev k with ack := .success }) ∧
      (ans.d1 ≠ s.cfg.statusOk → Decodes i s k { s.dev k with ack := .fail }) :=
    ⟨fun h => decodes_of_decodeInto hat hk (he.trans (decodeStatus_ok h)),
      fun h => decodes_of_decodeInto hat hk (he.trans (decodeStatus_fail h))⟩
  simp only [List.forall_mem_cons]
  exact ⟨status rfl, status rfl, status rfl, status rfl, status rfl, status rfl, status rfl, status rfl, status rfl,
    status rfl, status rfl, status rfl, List.forall_mem_nil _⟩

/-- Settles O47: each of the fourteen kinds is a Q24 decoding into its field. -/
theorem q24AnswersWriteTheirField : Obligations.Q24AnswersWriteTheirField := by
  intro s call x k n ans hat hk v r
  have q24 (kind : FrameKind) (hkind : kind ∈ q24Kinds) :
      (ans.dlc = 5 → Decodes (.ofAnswer ans kind) s k
        { Telemetry s.cfg.num kind ⟨0, ans.dlc, ans.bytes 0⟩ (s.dev k) with ack := .success }) ∧
      (ans.dlc ≠ 5 → Decodes (.ofAnswer ans kind) s k (s.dev k)) := by
    have hexec := exec_ofAnswer_q24 hkind ⟨0, ans.dlc, ans.bytes 0⟩ s
    have hwrites := decodes_of_decodeInto hat hk hexec
    exact ⟨fun h => by rwa [if_pos h] at hwrites, fun h => by rwa [if_neg h] at hwrites⟩
  simp only [List.forall_mem_cons]
  exact ⟨q24 .getCurrent (by decide), q24 .getSpeed (by decide), q24 .getPosition (by decide), q24 .getCurOutUpper (by decide),
    q24 .getCurOutLower (by decide), q24 .getSpdOutUpper (by decide), q24 .getSpdOutLower (by decide),
    q24 .getPosOutUpper (by decide), q24 .getPosOutLower (by decide), q24 .getProfileSpeed (by decide),
    q24 .getProfileAccel (by decide), q24 .getProfileDecel (by decide), q24 .getTravelUpper (by decide),
    q24 .getTravelLower (by decide), List.forall_mem_nil _⟩

/-- Settles O48: two kinds are T8 decodings and four BYTE decodings, each into its field. -/
theorem t8AndByteAnswersWriteTheirField : Obligations.T8AndByteAnswersWriteTheirField := by
  intro s call x k n ans hat hk v r
  have t8 (field : F → ActuatorRecord → ActuatorRecord) {i : Instr} (he : exec i s = decodeT8 field ans s) :
      Decodes i s k { field v (s.dev k) with ack := .success } := decodes_of_decodeInto hat hk he
  have byte (field : Byte → ActuatorRecord → ActuatorRecord) {i : Instr} (he : exec i s = decodeByte field ans s) :
      Decodes i s k { field ans.d1 (s.dev k) with ack := .success } := decodes_of_decodeInto hat hk he
  simp only [List.forall_mem_cons]
  exact ⟨t8 (fun v r => { r with motorTemp := v }) rfl, t8 (fun v r => { r with inverterTemp := v }) rfl,
    byte (fun v r => { r with runMode := v }) rfl, byte (fun v r => { r with power := v }) rfl,
    byte (fun v r => { r with exception := v }) rfl, byte (fun v r => { r with shutdown := v }) rfl, List.forall_mem_nil _⟩

/-! ### The step of `S4` (R172, R178, R185) -/

/-- Settles O9: a frame's meaning is a decoding, which answers a next state. -/
theorem stepRunsTheDecodedFrame : Obligations.StepRunsTheDecodedFrame := by
  intro s rest call x k n i hat hm hdec
  obtain ⟨kind, -, -, rfl⟩ := decodeFrame_ok hdec
  obtain ⟨f, he, -⟩ := exec_ofAnswer kind ((s.dev k).rx.d.answer (s.dev k).rx.dlc) (s.begin rest)
  have hexec := he.trans (decodeInto_of_s4 (s := s.begin rest) hat f)
  refine ⟨_, hexec, ?_⟩
  rw [step_s4 hat hm]
  simp only [decodeStep, begin_cfg, begin_dev, hdec, hexec]

/-- Settles O49: a frame whose first byte is no opcode decodes to nothing. -/
theorem unknownOpcodeWritesNothing : Obligations.UnknownOpcodeWritesNothing := by
  intro s call x k n rest hat hm hkind
  have hdec : decodeFrame s.cfg (s.dev k).rx.dlc (s.dev k).rx.d = .error .unknownOpcode := by simp only [decodeFrame, hkind]
  rw [step_s4 hat hm]
  simp only [decodeStep, begin_cfg, begin_dev, hdec]
  exact ⟨_, rfl, ⟨rfl, rfl⟩, rfl, rfl, rfl, rfl, rfl, rfl, rfl⟩

end Sys2Proof.Machine
end

section
/-! PROOFS. Runs of a call: its request up to the wait, the polls, the answer, and the statements of the family
44_protocol_engine.md about runs. -/

namespace Sys2Proof.Machine

open Sys2Proof.Spec

/-! ### Runs -/

theorem run_succ_of_step {s t : State} (h : step s = .next t) (n : Nat) :
    Sys2Proof.core.run (n + 1) s = Sys2Proof.core.run n t := by
  have hstep : Sys2Proof.core.step s = .next t := h
  simp only [Host.Core.run, hstep]

theorem step_of_run_succ {s t : State} {n : Nat} (h : Sys2Proof.core.run (n + 1) s = .next t) :
    ∃ u, step s = .next u ∧ Sys2Proof.core.run n u = .next t := by
  cases hs : step s with
  | next u => exact ⟨u, rfl, run_succ_of_step hs n ▸ h⟩
  | fault r =>
    have hstep : Sys2Proof.core.step s = .fault r := hs
    simp only [Host.Core.run, hstep] at h
    cases h
  | refused r =>
    have hstep : Sys2Proof.core.step s = .refused r := hs
    simp only [Host.Core.run, hstep] at h
    cases h

namespace Reaches

variable {s t : State} {P Q : State → Prop} {m n : Nat}

theorem mono (h : Reaches n s P) (hpq : ∀ t, P t → Q t) : Reaches n s Q := by
  obtain ⟨t, ht, hp⟩ := h
  exact ⟨t, ht, hpq t hp⟩

theorem zero (h : P s) : Reaches 0 s P := ⟨s, rfl, h⟩

theorem of_step (h : step s = .next t) (ht : Reaches n t P) : Reaches (n + 1) s P := by
  obtain ⟨u, hu, hp⟩ := ht
  exact ⟨u, (run_succ_of_step h n).trans hu, hp⟩

theorem trans (h : Reaches m s Q) (hq : ∀ t, Q t → Reaches n t P) : Reaches (m + n) s P := by
  obtain ⟨t, ht, hqt⟩ := h
  induction m generalizing s with
  | zero =>
    cases ht
    rw [Nat.zero_add]
    exact hq _ hqt
  | succ m ih =>
    obtain ⟨u, hu, hrun⟩ := step_of_run_succ ht
    rw [Nat.add_right_comm]
    exact (ih hrun).of_step hu

/-- A run keeps the invariant and the parameters. -/
theorem keeps (h : Reaches n s P) (hs : s.Inv) : Reaches n s (fun t => t.Inv ∧ t.cfg = s.cfg ∧ P t) := by
  obtain ⟨t, ht, hp⟩ := h
  induction n generalizing s with
  | zero =>
    cases ht
    exact .zero ⟨hs, rfl, hp⟩
  | succ n ih =>
    obtain ⟨u, hu, hrun⟩ := step_of_run_succ ht
    have hcfg := noStepChangesTheConfiguration s u hu
    exact (hcfg ▸ ih (everyStepKeepsTheInvariant s u hs hu) hrun).of_step hu

end Reaches

/-! ### A frame that arrives (R237) -/

theorem devId_lt_of_wf {s : State} (hw : s.cfg.wf = true) {k : Nat} (hk : k < s.cfg.nDev) : s.devId k < 2 ^ s.cfg.idW := by
  simp only [Cfg.wf, Bool.and_eq_true, List.all_eq_true, decide_eq_true_eq] at hw
  obtain ⟨⟨⟨⟨⟨⟨-, hwidth⟩, -⟩, -⟩, -⟩, -⟩, -⟩ := hw
  exact hwidth _ (devId_mem hk)

/-- A frame of a device of the registry enters its slot. -/
theorem step_arrival_of_device {s : State} {a : Arrival} {rest : List Input} {k : Nat} (hi : s.inputs = .arrival a :: rest)
    (hframe : a.isFrame s.cfg = true) (hk : s.find a.id = some k) :
    step s = .next (((s.begin rest).record (.arrival a)).modDev k (receive a)) := by
  have hk' : (s.begin rest).find a.id = some k := hk
  simp only [step, hi, notify, begin_cfg, hframe, hk', Bool.true_eq_false, if_false]
  rfl

theorem decodeFrame_of_kindOf {c : Cfg} {dlc : BitVec 4} {d : Bytes8} {kind : FrameKind} (hkind : c.kindOf d.d0 = some kind)
    (hlen : dlc.toNat ≤ 8) : decodeFrame c dlc d = .ok (.ofAnswer (d.answer dlc) kind) := by
  simp only [decodeFrame, hkind, (answer_wf_iff d dlc).mpr hlen, if_true]

/-! ### An exchange under way -/

/-- A run from `s` of an exchange with device `k`, after the frame was taken, stands at `t`: the record is `r`, `events` have entered
the history, `rest` is to come, each port has given one answer, and nothing else has changed. -/
structure Underway (s : State) (k : Nat) (r : ActuatorRecord) (events : List Event) (rest : List Input) (t : State) : Prop where
  inv : t.Inv
  cfg : t.cfg = s.cfg
  cascades : t.cascades = s.cascades
  inputs : t.inputs = rest
  busFree : t.busFree = s.busFree.tail
  busTx : t.busTx = s.busTx.tail
  record : t.dev k = r
  others : ∀ j, j ≠ k → t.dev j = s.dev j
  history : t.history = events ++ s.history

namespace Underway

variable {s t u : State} {k : Nat} {r : ActuatorRecord} {events : List Event} {input : Input} {rest : List Input}

theorem registered (h : Underway s k r events rest t) (hk : k < s.cfg.nDev) : k < t.devs.length := by
  rwa [h.inv.nDevs, h.cfg]

/-- A step that writes no register but `seq`. -/
theorem of_same (h : Underway s k r events (input :: rest) t) (hstep : step t = .next u) (hreg : SameRegisters t u)
    (hports : SamePorts t u rest) (hhist : u.history = t.history) : Underway s k r events rest u := by
  obtain ⟨hcas, hdevs⟩ := hreg
  obtain ⟨hcfg, hinputs, hfree, htx⟩ := hports
  have hdev := dev_congr hdevs hcfg
  exact ⟨everyStepKeepsTheInvariant t u h.inv hstep, hcfg.trans h.cfg, hcas.trans h.cascades, hinputs, hfree.trans h.busFree,
    htx.trans h.busTx, (hdev k).trans h.record, fun j hj => (hdev j).trans (h.others j hj), hhist.trans h.history⟩

/-- A step that writes the device's record and enters events in the history. -/
theorem of_write (h : Underway s k r events (input :: rest) t) (hk : k < s.cfg.nDev) (hstep : step t = .next u)
    {f : ActuatorRecord → ActuatorRecord} (hdevs : u.devs = t.devs.modify k f) (hcas : u.cascades = t.cascades)
    (hports : SamePorts t u rest) {new : List Event} (hhist : u.history = new ++ t.history) :
    Underway s k (f r) (new ++ events) rest u := by
  obtain ⟨hcfg, hinputs, hfree, htx⟩ := hports
  obtain ⟨hdev, hother⟩ := dev_of_modify (h.registered hk) hdevs hcfg
  exact ⟨everyStepKeepsTheInvariant t u h.inv hstep, hcfg.trans h.cfg, hcas.trans h.cascades, hinputs, hfree.trans h.busFree,
    htx.trans h.busTx, by rw [hdev, h.record], fun j hj => (hother j hj).trans (h.others j hj),
    by rw [hhist, h.history, List.append_assoc]⟩

variable {call : Call} {x n : Nat}

/-- A poll that finds no frame, with polls left (R173). -/
theorem poll_again (h : Underway s k r events (.tick :: rest) t) (hat : At t call x .poll k n) (hfresh : r.fresh = false)
    (hn : n + 1 < s.cfg.timeoutIters) :
    ∃ u, step t = .next u ∧ At u call x .poll k (n + 1) ∧ Underway s k r events rest u := by
  obtain ⟨u, hstep, hreg, hhist, -, hports, -, hpoll, -⟩ :=
    pollTestsTheFlagBeforeTheCount t call x k n rest hat (.inl h.inputs)
  exact ⟨u, hstep, hpoll (h.record ▸ hfresh) (h.cfg ▸ hn), h.of_same hstep hreg hports hhist⟩

/-- The last poll, that finds no frame (R173). -/
theorem poll_last (h : Underway s k r events (.tick :: rest) t) (hat : At t call x .poll k n) (hfresh : r.fresh = false)
    (hn : s.cfg.timeoutIters ≤ n + 1) :
    ∃ u, step t = .next u ∧ At u call x .s5a k (n + 1) ∧ Underway s k r events rest u := by
  obtain ⟨u, hstep, hreg, hhist, -, hports, -, -, hlast⟩ :=
    pollTestsTheFlagBeforeTheCount t call x k n rest hat (.inl h.inputs)
  exact ⟨u, hstep, hlast (h.record ▸ hfresh) (h.cfg ▸ hn), h.of_same hstep hreg hports hhist⟩

/-- A poll that finds a frame (R173). -/
theorem poll_fresh (h : Underway s k r events (.tick :: rest) t) (hat : At t call x .poll k n) (hfresh : r.fresh = true) :
    ∃ u, step t = .next u ∧ At u call x .s4 k (n + 1) ∧ Underway s k r events rest u := by
  obtain ⟨u, hstep, hreg, hhist, -, hports, hs4, -, -⟩ :=
    pollTestsTheFlagBeforeTheCount t call x k n rest hat (.inl h.inputs)
  exact ⟨u, hstep, hs4 (h.record ▸ hfresh), h.of_same hstep hreg hports hhist⟩

/-- Polls without a frame go on as long as the count is below `TIMEOUT_ITERS`. -/
theorem polls (m : Nat) (hfresh : r.fresh = false) {n : Nat} (hn : n + m < s.cfg.timeoutIters) {t : State}
    (h : Underway s k r events (List.replicate m .tick ++ rest) t) (hat : At t call x .poll k n) :
    Reaches m t (fun u => At u call x .poll k (n + m) ∧ Underway s k r events rest u) := by
  induction m generalizing n t with
  | zero => exact .zero ⟨hat, h⟩
  | succ m ih =>
    obtain ⟨u, hstep, hat', h'⟩ := h.poll_again hat hfresh (by omega)
    have hrun := ih (n := n + 1) (by omega) h' hat'
    rw [Nat.add_right_comm] at hrun
    exact hrun.of_step hstep

/-- An arrival from the device enters its slot (R237). -/
theorem arrives {a : Arrival} (h : Underway s k r events (.arrival a :: rest) t) (hk : k < s.cfg.nDev)
    (hid : a.id = s.devId k) (hlen : a.dlc.toNat ≤ 8) : ∃ u, step t = .next u ∧ u.seq = t.seq ∧
      Underway s k (receive a r) (.arrival a :: events) rest u := by
  have hw : s.cfg.wf = true := h.cfg ▸ h.inv.cfg
  have hfind : t.find a.id = some k := by
    rw [find_eq_some_iff h.inv.cfg, State.devId, h.cfg]
    exact ⟨hk, hid.symm⟩
  have hframe : a.isFrame t.cfg = true := by
    rw [a.isFrame_iff, h.cfg, hid]
    exact ⟨hlen, devId_lt_of_wf hw hk⟩
  have hstep := step_arrival_of_device h.inputs hframe hfind
  exact ⟨_, hstep, rfl, h.of_write hk hstep (f := receive a) (new := [.arrival a]) rfl rfl ⟨rfl, rfl, rfl, rfl⟩ rfl⟩

/-- `S4` decodes the frame in the slot, where it acknowledges (R178). -/
theorem decodes {a : Arrival} {kind : FrameKind} (h : Underway s k r events (.tick :: rest) t) (hk : k < s.cfg.nDev)
    (hat : At t call x .s4 k n) (hrx : r.rx = ⟨a.dlc, a.d⟩) (hlen : a.dlc.toNat ≤ 8) (hack : Acknowledges s.cfg kind a) :
    ∃ u, step t = .next u ∧ At u call x .s5 k n ∧
      Underway s k { Telemetry s.cfg.num kind a r with ack := .success } events rest u := by
  have hdec : decodeFrame t.cfg (t.dev k).rx.dlc (t.dev k).rx.d = .ok (.ofAnswer (a.d.answer a.dlc) kind) := by
    rw [h.record, hrx, h.cfg]
    exact decodeFrame_of_kindOf hack.1 hlen
  obtain ⟨v, hexec, hstep⟩ := stepRunsTheDecodedFrame t rest call x k n _ hat (.inl h.inputs) hdec
  rw [exec_ofAnswer_of_acknowledges (h.cfg ▸ hack), decodeInto_of_s4 (s := t.begin rest) hat, begin_cfg, h.cfg] at hexec
  cases hexec
  exact ⟨_, hstep, rfl, h.of_write hk hstep
    (f := fun r => { Telemetry s.cfg.num kind a r with ack := .success }) (new := []) rfl rfl ⟨rfl, rfl, rfl, rfl⟩ rfl⟩

end Underway

/-! ### The request of a call -/

/-- The record of the device when the frame of a call's first exchange has been taken (R172, R205). -/
def requested (call : Call) (r : ActuatorRecord) : ActuatorRecord :=
  { Commanded call r with ack := .clear, fresh := false, phase := .awaitingAck }

theorem noteCommanded_clearFlags (s : State) (call : Call) (k : Nat) (r : ActuatorRecord) :
    noteCommanded s call 0 k (setPhase .awaitingAck (clearFlags r)) = requested call r := by
  cases call <;> rfl

/-- What has entered the history when the frame of the call's first exchange has been taken, two steps after the one that accepted
the command. -/
def requestEvents (s : State) (cmd : BitVec 128) (call : Call) (k : Nat) : List Event :=
  [.busTx ⟨s.devId k, frameBytes { s with draws := s.draws + 3 } call 0 k⟩ true, .busFree true, .command cmd]

theorem starts_lt {s : State} {i : Instr} {call : Call} {k : Nat} (h : Starts s i call k) : k < s.cfg.nDev := by
  cases i with
  | driveCycle =>
    obtain ⟨rfl, hd, -⟩ := h
    exact hd
  | actHandshake | actGet | actSetCurrent | actSetSpeed | actSetPosition | actSetMode | actSetPower | actSetLimit | actSend =>
    exact (find_some h.1).1
  | _ => exact h.elim

/-- A frame depends on the parameters, the step's number and the cascades. -/
theorem frameBytes_congr {s t : State} (hcfg : t.cfg = s.cfg) (hdraws : t.draws = s.draws) (hcas : t.cascades = s.cascades)
    (call : Call) (x k : Nat) : frameBytes t call x k = frameBytes s call x k := by
  simp only [frameBytes, State.loop, State.cascade, hcfg, hdraws, hcas]

/-- What a call's checks read is in the parameters. -/
theorem starts_congr {s t : State} (hcfg : t.cfg = s.cfg) {i : Instr} {call : Call} {k : Nat} (h : Starts s i call k) :
    Starts t i call k := by
  unfold Starts State.find at *
  rwa [hcfg]

/-- `S2` and `S3`, with the frame taken: the record is written twice, and the frame enters the history (R172). -/
theorem request_transmitted {u : State} {call : Call} {k : Nat} {ts : List Bool} {rest : List Input} (hk : k < u.devs.length)
    (hat : At u call 0 .s2 k 0) (htx : u.busTx = true :: ts) (hi : u.inputs = .tick :: .tick :: rest) :
    ∃ v t, step u = .next v ∧ step v = .next t ∧ At t call 0 .poll k 0 ∧ t.cfg = u.cfg ∧ t.inputs = rest ∧
      t.busFree = u.busFree ∧ t.busTx = ts ∧ t.cascades = u.cascades ∧ t.dev k = requested call (u.dev k) ∧
      (∀ j, j ≠ k → t.dev j = u.dev j) ∧
      t.history = .busTx ⟨u.devId k, frameBytes { u with draws := u.draws + 2 } call 0 k⟩ true :: u.history := by
  let v := clearStep call 0 k (u.begin (.tick :: rest))
  have hans : (v.begin rest).busTxAnswer = true := by simp [State.busTxAnswer, v, clearStep, htx]
  have hsend := step_s3 (s := v) (rest := rest) rfl (.inl rfl)
  have hkv : k < v.devs.length := by simpa [v, clearStep] using hk
  obtain ⟨hdev, hother⟩ := dev_of_modify (s := u) (t := v) hk rfl rfl
  obtain ⟨hdev', hother'⟩ := dev_of_modify (t := transmitStep call 0 k (v.begin rest)) hkv
    (by rw [transmitStep_taken hans]; rfl) (transmitStep_cfg ..)
  rw [transmitStep_taken hans] at hsend hdev' hother'
  refine ⟨v, _, step_s2 hat (.inl hi), hsend, rfl, rfl, rfl, rfl, congrArg List.tail htx, rfl, ?record, ?others, ?history⟩
  case record => rw [hdev', hdev, noteCommanded_clearFlags]
  case others => exact fun j hj => (hother' j hj).trans (hother j hj)
  case history =>
    rw [goTo_history, modDev_history, handToBus_history, hans]
    rfl

/-- A call that passes its checks, with the bus free and the frame taken, stands after three steps before its first poll (R172). -/
theorem request_reaches_poll {s : State} {cmd : BitVec 128} {i : Instr} {call : Call} {k : Nat} {fs ts : List Bool}
    {rest : List Input} (hinv : s.Inv) (hq : s.seq = .ready) (hdec : decodeHost cmd = .ok i) (hst : Starts s i call k)
    (hfree : s.busFree = true :: fs) (htx : s.busTx = true :: ts) (hi : s.inputs = .command cmd :: .tick :: .tick :: rest) :
    Reaches 3 s (fun t => At t call 0 .poll k 0 ∧
      Underway s k (requested call (s.dev k)) (requestEvents s cmd call k) rest t) := by
  have hanswer : ((s.begin (.tick :: .tick :: rest)).record (.command cmd)).busFreeAnswer = true := by
    simp [State.busFreeAnswer, hfree]
  obtain ⟨u, hexec, hat, ⟨hcas, hdevs⟩, hhist, hufree, hutx, -, hcfg, hinputs, hdraws⟩ :=
    protocolCallsStartTheirExchange.1 _ i call k (starts_congr (t := (s.begin _).record _) rfl hst) hanswer
  have haccept := (stepRunsTheDecodedCommand s cmd _ i hq hi hdec).trans hexec
  have hdev := dev_congr (s := s) hdevs hcfg
  have hk : k < u.devs.length := by
    rw [hdevs]
    exact hinv.nDevs ▸ starts_lt hst
  obtain ⟨v, t, hclear, hsend, hat', htcfg, htinputs, htfree, httx, htcas, htdev, htother, hthist⟩ :=
    request_transmitted hk hat (hutx.trans htx) hinputs
  have hkeeps := everyStepKeepsTheInvariant
  have hframe := frameBytes_congr (s := { s with draws := s.draws + 3 }) (t := { u with draws := u.draws + 2 }) hcfg
    (congrArg (· + 2) hdraws) hcas call 0 k
  have hid : u.devId k = s.devId k := congrArg (fun c : Cfg => c.devId.getD k 0) hcfg
  refine .of_step haccept (.of_step hclear (.of_step hsend (.zero ⟨hat', ?_⟩)))
  exact
    { inv := hkeeps _ _ (hkeeps _ _ (hkeeps _ _ hinv haccept) hclear) hsend
      cfg := htcfg.trans hcfg
      cascades := htcas.trans hcas
      inputs := htinputs
      busFree := htfree.trans hufree
      busTx := by rw [httx, htx]; rfl
      record := by rw [htdev, hdev]
      others := fun j hj => (htother j hj).trans (hdev j)
      history := by rw [hthist, hframe, hid, hhist]; rfl }

/-! ### A call that nobody answers (R173, R177) -/

@[simp] theorem commanded_failCnt (call : Call) (r : ActuatorRecord) : (Commanded call r).failCnt = r.failCnt := by
  cases call <;> rfl

@[simp] theorem commanded_live (call : Call) (r : ActuatorRecord) : (Commanded call r).live = r.live := by
  cases call <;> rfl

/-- The request leaves the books, so a failure is counted from those of before. -/
theorem countsAFailure_requested {c : Cfg} {call : Call} {old new : ActuatorRecord}
    (h : CountsAFailure c (requested call old) new) : CountsAFailure c old new := by
  simpa [CountsAFailure, requested] using h

/-- The ticks of an unanswered command: `S2`, `S3`, the polls before the last, the last, and `S5a`. -/
theorem unanswered_append {s : State} {p : Nat} (hp : s.cfg.timeoutIters = p + 1) (cmd : BitVec 128) (rest : List Input) :
    unanswered s cmd ++ rest = .command cmd :: .tick :: .tick :: (List.replicate p .tick ++ .tick :: .tick :: rest) := by
  have hsplit : p + 1 + 3 = 2 + (p + 2) := by omega
  rw [unanswered, hp, hsplit, List.replicate_add, List.replicate_add]
  simp [List.replicate_succ]

/-- Settles O51: the request reaches the wait, every poll finds `fresh` 0, and `S5a` follows the last. -/
theorem unansweredCallEndsInTimeout : Obligations.UnansweredCallEndsInTimeout := by
  intro s cmd i call k fs ts rest hinv hq hdec hst hfree htx hi
  have hk := starts_lt hst
  obtain ⟨p, hp⟩ := Nat.exists_eq_add_of_le' (Cfg.bounds_of_wf hinv.cfg).1
  rw [unanswered_append hp] at hi
  have hcount : s.cfg.timeoutIters + 4 = 3 + (p + 2) := by omega
  rw [hcount]
  refine (request_reaches_poll hinv hq hdec hst hfree htx hi).trans fun t ⟨hat, ht⟩ => ?_
  refine (ht.polls p rfl (by omega) hat).trans fun u ⟨hat, hu⟩ => ?_
  obtain ⟨v, hlast, hat, hv⟩ := hu.poll_last hat rfl (by omega)
  obtain ⟨w, hend, hcas, hother, ⟨-, hinputs, hwfree, hwtx⟩, ⟨hseq, hshows, hhist⟩, hcounts, hrec⟩ :=
    exhaustedStepKeepsTheBooks v call 0 k _ rest hat (.inl hv.inputs) (hv.registered hk)
  rw [hv.record] at hcounts hrec
  rw [hv.cfg] at hcounts
  refine .of_step hlast (.of_step hend (.zero ⟨hseq, hshows, hinputs, ?_, ?_, hcas.trans hv.cascades,
    countsAFailure_requested hcounts, hrec, fun j hj => (hother j hj).trans (hv.others j hj), ?_⟩))
  · rw [hwfree, hv.busFree, hfree, List.tail_cons]
  · rw [hwtx, hv.busTx, htx, List.tail_cons]
  · rw [hhist, hv.history]
    rfl

/-! ### Handshakes in a row that nobody answers (R187) -/

/-- Between two commands of a run under the parameters of `s`: the core is good and ready, `rest` is to come at the host's port and
`fs` and `ts` at the bus's, and the books of device `k` say `count` failures in a row and `live`. -/
structure BetweenCommands (s : State) (k count : Nat) (live : Live) (fs ts : List Bool) (rest : List Input) (t : State) : Prop where
  inv : t.Inv
  cfg : t.cfg = s.cfg
  ready : t.seq = .ready
  inputs : t.inputs = rest
  busFree : t.busFree = fs
  busTx : t.busTx = ts
  failCnt : (t.dev k).failCnt.toNat = count
  live : (t.dev k).live = live

/-- One more unanswered handshake counts one more failure (R177). -/
theorem BetweenCommands.unansweredHandshake {s t : State} {k count : Nat} {live : Live} {fs ts : List Bool} {rest : List Input}
    {cmd : BitVec 128} {dev : Byte} (hdec : decodeHost cmd = .ok (.actHandshake dev)) (hfind : s.find dev.toNat = some k)
    (hcount : count < 255) (h : BetweenCommands s k count live (true :: fs) (true :: ts) (unanswered s cmd ++ rest) t) :
    Reaches (s.cfg.timeoutIters + 4) t
      (BetweenCommands s k (count + 1) (if s.cfg.offlineThreshold ≤ count + 1 then .offline else live) fs ts rest) := by
  have hst : Starts t (.actHandshake dev) .handshake k := starts_congr h.cfg ⟨hfind, rfl⟩
  have hi : t.inputs = unanswered t cmd ++ rest := by rw [h.inputs, unanswered, unanswered, h.cfg]
  obtain ⟨u, hrun, hinv, hcfg, hseq, -, hinputs, hfree, htx, -, ⟨hcnt, hoffline, hkept⟩, -⟩ :=
    (unansweredCallEndsInTimeout t cmd _ _ k fs ts rest h.inv h.ready hdec hst h.busFree h.busTx hi).keeps h.inv
  rw [h.cfg] at hrun hcfg hoffline hkept
  rw [h.failCnt, min_eq_right (by omega)] at hcnt
  rw [hcnt] at hoffline hkept
  refine ⟨u, hrun, hinv, hcfg, hseq, hinputs, hfree, htx, hcnt, ?_⟩
  split
  · next hle => exact hoffline hle
  · next hlt => exact (hkept (not_le.mp hlt)).trans h.live

/-- Settles O52: each handshake counts one more failure, and the third reaches the threshold. -/
theorem threeTimeoutsTakeADeviceOffline : Obligations.ThreeTimeoutsTakeADeviceOffline := by
  intro s cmd dev k fs ts rest hinv hq hthreshold hdec hfind hfree htx hi hlive hcnt
  have hnone : BetweenCommands s k 0 .online (true :: true :: true :: fs) (true :: true :: true :: ts) _ s :=
    ⟨hinv, rfl, hq, hi, hfree, htx, congrArg BitVec.toNat hcnt, hlive⟩
  have hfirst := hnone.unansweredHandshake hdec hfind (by decide)
  have hsecond := hfirst.trans fun _ ht => ht.unansweredHandshake hdec hfind (by decide)
  have hthird := hsecond.trans fun _ ht => ht.unansweredHandshake hdec hfind (by decide)
  rw [hthreshold] at hfirst hsecond hthird
  rw [show 2 * (s.cfg.timeoutIters + 4) = s.cfg.timeoutIters + 4 + (s.cfg.timeoutIters + 4) by omega,
    show 3 * (s.cfg.timeoutIters + 4) = s.cfg.timeoutIters + 4 + (s.cfg.timeoutIters + 4) + (s.cfg.timeoutIters + 4) by omega]
  exact ⟨hfirst.mono fun t ht => ⟨BitVec.eq_of_toNat_eq ht.failCnt, ht.live⟩,
    hsecond.mono fun t ht => ⟨BitVec.eq_of_toNat_eq ht.failCnt, ht.live⟩,
    hthird.mono fun t ht => ⟨BitVec.eq_of_toNat_eq ht.failCnt, ht.live, ht.ready, ht.inputs⟩⟩

/-! ### A call that is answered (R172, R186) -/

/-- The books, the slot and the flags that a settled answer leaves do not depend on the order in which they were written. -/
theorem telemetry_receive_requested (m : Num) (kind : FrameKind) (a : Arrival) (call : Call) (r : ActuatorRecord) :
    { Telemetry m kind a (receive a (requested call r)) with
      ack := .success, phase := .acked, failCnt := 0, live := .online } =
    { Telemetry m kind a (Commanded call r) with
      live := .online, failCnt := 0, ack := .success, phase := .acked, fresh := true, rx := ⟨a.dlc, a.d⟩ } := by
  cases kind <;> rfl

/-- Settles O50: the request reaches the wait, the polls before the arrival find `fresh` 0 and the one after it the frame, which `S4`
decodes to Success. -/
theorem answeredCallEndsInSuccess : Obligations.AnsweredCallEndsInSuccess := by
  intro s cmd i call k m a kind fs ts rest hinv hq hdec hst hsingle hfree htx hm hi hid hlen hack
  have hk := starts_lt hst
  have hcount : m + 7 = 3 + (m + 4) := by omega
  rw [List.replicate_add, List.append_assoc] at hi
  rw [hcount]
  refine (request_reaches_poll hinv hq hdec hst hfree htx hi).trans fun t ⟨hat, ht⟩ => ?_
  refine (ht.polls m rfl (by omega) hat).trans fun u ⟨hat, hu⟩ => ?_
  obtain ⟨v, harrives, hseq, hv⟩ := hu.arrives hk hid hlen
  obtain ⟨w, hpoll, hat, hw⟩ := hv.poll_fresh (hseq.trans hat) rfl
  obtain ⟨y, hdecode, hat, hy⟩ := hw.decodes hk hat rfl hlen hack
  obtain ⟨z, hsettle, hother, ⟨-, hinputs, -, -⟩, hsuccess, -⟩ :=
    settleStepKeepsTheBooks y call 0 k _ rest hat (.inl hy.inputs) (hy.registered hk)
  rw [hy.record] at hsuccess
  obtain ⟨hdev, hends⟩ := hsuccess rfl
  obtain ⟨hcas, hready, hshows, hhist⟩ := hends hsingle
  refine .of_step harrives (.of_step hpoll (.of_step hdecode (.of_step hsettle (.zero ⟨hready, hshows, hinputs,
    hcas.trans hy.cascades, ?_, fun j hj => (hother j hj).trans (hy.others j hj), ?_⟩))))
  · exact hdev.trans (telemetry_receive_requested ..)
  · rw [hhist, hy.history]
    rfl

end Sys2Proof.Machine
end

section
/-! PROOFS. The checks of a protocol call in their order, what a call does when an exchange has succeeded, and the statements of the
family 45_protocol_calls.md. -/

namespace Sys2Proof.Machine

open Sys2Proof.Spec

/-! ### The checks of a call (R200, R203, R233) -/

/-- The answer of a call whose immediate is checked first (R233): a `bad` one is illegal, and after any other the device is looked up
and the exchange starts, with nothing else to check. -/
structure ChecksOperandFirst (bad : Prop) (dev : Byte) (s : State) (o : Out) : Prop where
  refuses : bad → o = illegal s
  looksUp : ¬ bad → ∃ call, o = onDevice dev s (fun k => start call k s)

theorem exec_actGet_checksOperandFirst (dev kind : Byte) (s : State) :
    ChecksOperandFirst (19 < kind.toNat) dev s (exec (.actGet dev kind) s) := by
  rw [← getKind_eq_none_iff]
  simp only [exec, execActGet]
  cases getKind kind with
  | none => exact ⟨fun _ => rfl, fun h => absurd rfl h⟩
  | some fk => exact ⟨nofun, fun _ => ⟨.get fk, rfl⟩⟩

theorem exec_actSetLimit_checksOperandFirst (dev kind : Byte) (v : F) (s : State) :
    ChecksOperandFirst (5 < kind.toNat) dev s (exec (.actSetLimit dev kind v) s) := by
  rw [← limitKind_eq_none_iff]
  simp only [exec, execActSetLimit]
  cases limitKind kind with
  | none => exact ⟨fun _ => rfl, fun h => absurd rfl h⟩
  | some fk => exact ⟨nofun, fun _ => ⟨.setLimit fk v, rfl⟩⟩

theorem exec_actSend_checksOperandFirst (dev dlc : Byte) (a b : Word) (s : State) :
    ChecksOperandFirst (dlc.toNat = 0 ∨ 8 < dlc.toNat) dev s (exec (.actSend dev dlc a b) s) := by
  have hzero : dlc = 0 ↔ dlc.toNat = 0 := BitVec.toNat_inj.symm
  rw [← hzero]
  exact ⟨fun h => if_pos h, fun h => ⟨.send dlc.toNat (.ofWords a b), if_neg h⟩⟩

/-- With no such device nothing is started, whatever the call (R160). -/
theorem endsUnchanged_onDevice {dev : Byte} {s : State} (h : s.find dev.toNat = none) (act : Nat → Out) :
    EndsUnchanged (onDevice dev s act) s .deviceNotFound 0 := by
  rw [onDevice_of_find_none h]
  exact endsUnchanged_failWith s .deviceNotFound

namespace ChecksOperandFirst

variable {bad : Prop} {dev : Byte} {s : State} {o : Out}

theorem illegalCommand (h : ChecksOperandFirst bad dev s o) (hbad : bad) : EndsUnchanged o s .illegalCommand 0 := by
  rw [h.refuses hbad]
  exact endsUnchanged_failWith s .illegalCommand

theorem deviceNotFound (h : ChecksOperandFirst bad dev s o) (hgood : ¬ bad) (hfind : s.find dev.toNat = none) :
    EndsUnchanged o s .deviceNotFound 0 := by
  obtain ⟨call, he⟩ := h.looksUp hgood
  rw [he]
  exact endsUnchanged_onDevice hfind _

end ChecksOperandFirst

/-- A setter of a known device refuses a value outside its range (R203). -/
theorem endsUnchanged_setChecked {dev : Byte} {s : State} {k : Nat} (hfind : s.find dev.toNat = some k) {ok : Bool}
    (hok : ¬ ok = true) (call : Call) : EndsUnchanged (setChecked dev ok call s) s .outOfRange 0 := by
  rw [setChecked, onDevice_of_find hfind, if_neg hok]
  exact endsUnchanged_failWith s .outOfRange

/-- Settles O36, check by check: the operand, the device, the range. -/
theorem checksComeInOrderBeforeTheBus : Obligations.ChecksComeInOrderBeforeTheBus := by
  intro s dev imm8 v a b
  have hget := exec_actGet_checksOperandFirst dev imm8 s
  have hlimit := exec_actSetLimit_checksOperandFirst dev imm8 v s
  have hsend := exec_actSend_checksOperandFirst dev imm8 a b s
  refine ⟨hget.illegalCommand, hlimit.illegalCommand, hsend.illegalCommand, fun hfind => ⟨?unchecked, ?get, ?limit, ?send⟩,
    fun k hfind => ⟨fun hunit => ?unit, fun hpos => ?pos⟩⟩
  case unchecked =>
    have hnone := endsUnchanged_onDevice hfind
    simp only [List.forall_mem_cons]
    exact ⟨hnone _, hnone _, hnone _, hnone _, hnone _, hnone _, nofun⟩
  case get => exact fun h => hget.deviceNotFound (not_lt.mpr h) hfind
  case limit => exact fun h => hlimit.deviceNotFound (not_lt.mpr h) hfind
  case send => exact fun h => hsend.deviceNotFound (by omega) hfind
  case unit =>
    rw [← inUnit_iff] at hunit
    exact ⟨endsUnchanged_setChecked hfind hunit _, endsUnchanged_setChecked hfind hunit _⟩
  case pos =>
    rw [← inPos_iff] at hpos
    exact endsUnchanged_setChecked hfind hpos _

/-! ### After a successful exchange (R172 `S5`, R176) -/

/-- `S5` of an exchange that succeeded keeps the books, and the call goes on from there. -/
theorem step_s5_of_success {s : State} {call : Call} {x k n : Nat} {rest : List Input} (hat : At s call x .s5 k n)
    (hm : ExecutorMoves s rest) (hack : (s.dev k).ack = .success) :
    step s = .next (afterSuccess call x k ((s.begin rest).modDev k (settle s.cfg))) := by
  rw [step_s5 hat hm]
  simp only [settleStep, begin_dev, hack, begin_cfg]

/-! ### The read-back (R209, R210) -/

/-- `cached` is the byte of a record that a call compares with the byte `b` it requested. -/
def ReadsBack (call : Call) (b : Byte) (r : ActuatorRecord) (cached : Byte) : Prop :=
  call = .setMode b ∧ cached = r.runMode ∨ call = .setPower b ∧ cached = r.power

/-- Settling an exchange leaves the cached byte. -/
theorem ReadsBack.settle {call : Call} {b cached : Byte} {r : ActuatorRecord} (h : ReadsBack call b r cached) (c : Cfg) :
    ReadsBack call b (settle c r) cached := by
  obtain ⟨_, _, _, he⟩ := settle_frame c r
  rw [he]
  exact h

section

variable {s : State} {call : Call} {b cached : Byte} {k : Nat} (h : ReadsBack call b (s.dev k) cached)
include h

theorem afterSuccess_readBack_first : afterSuccess call 0 k s = s.goTo call 1 .s1 k 0 := by
  obtain ⟨rfl, -⟩ | ⟨rfl, -⟩ := h <;> rfl

theorem afterSuccess_readBack_second : afterSuccess call 1 k s =
    if cached = b then s.respond .success 0 else s.respond .ackFailure 0 := by
  obtain ⟨rfl, rfl⟩ | ⟨rfl, rfl⟩ := h <;> rfl

end

/-- Settles O43: the books are kept before the byte is compared, and either end leaves them. -/
theorem readBackIsCompared : Obligations.ReadBackIsCompared := by
  intro s k n b call cached rest hcall hm hk hack
  let t := (s.begin rest).modDev k (settle s.cfg)
  obtain ⟨hdev, -⟩ := dev_of_modify (s := s) (t := t) hk rfl rfl
  have hback : ReadsBack call b (t.dev k) cached := hdev ▸ ReadsBack.settle hcall s.cfg
  rw [settle_of_success hack] at hdev
  refine ⟨fun hat => ⟨_, step_s5_of_success hat hm hack, ?_⟩, fun hat => ⟨_, step_s5_of_success hat hm hack, ?_⟩⟩
  · rw [afterSuccess_readBack_first hback]
    exact ⟨rfl, rfl, rfl, rfl⟩
  · rw [afterSuccess_readBack_second hback]
    split
    · next heq => exact ⟨rfl, hdev, fun _ => ends_success rfl 0, fun hne => absurd heq hne⟩
    · next hne => exact ⟨rfl, hdev, fun heq => absurd heq hne, fun _ => ends_respond rfl fun _ => rfl⟩

/-! ### `drive_cycle` between its exchanges (R215) -/

theorem afterSuccess_drive_refresh {x : Nat} (hx : x < 2) (k : Nat) (s : State) :
    afterSuccess .driveCycle x k s = s.goTo .driveCycle (x + 1) .s1 k 0 := if_pos hx

theorem afterSuccess_drive_third (k : Nat) (s : State) : afterSuccess .driveCycle 2 k s = driveCascade k s := rfl

theorem afterSuccess_drive_last (k : Nat) (s : State) :
    afterSuccess .driveCycle 3 k s = s.respond .success (s.loop k .cur).out0 := rfl

/-- Settling an exchange leaves the telemetry that becomes the loops' feedback. -/
theorem pushFeedback_settle (g : Cfg) (r : ActuatorRecord) (c : Cascade) : pushFeedback (settle g r) c = pushFeedback r c := by
  obtain ⟨_, _, _, he⟩ := settle_frame g r
  rw [he]
  rfl

/-- The cycle's work writes its own cascade only: the feedback is pushed, then the cascade is calculated. -/
theorem driveCascade_cascade {s : State} {k : Nat} (hk : k < s.cascades.length) :
    (driveCascade k s).cascade k = calculate s.cfg.num s.nan (pushFeedback (s.dev k) (s.cascade k)) ∧
    ∀ c, c ≠ k → (driveCascade k s).cascade c = s.cascade c := by
  simp only [State.cascade, driveCascade_cascades]
  exact ⟨cascade_modCascade_same s k _ hk, fun c hc => cascade_modCascade_other s _ hc⟩

/-- The current loop's output decides between the fourth exchange and the end in `OutOfRange`. -/
theorem driveCascade_goes {s t : State} (hh : t.history = s.history) (k : Nat) :
    (WithinUnit t.cfg.num ((driveCascade k t).loop k .cur).out0 →
      At (driveCascade k t) .driveCycle 3 .s1 k 0 ∧ (driveCascade k t).rsp = t.rsp ∧ (driveCascade k t).history = s.history) ∧
    (¬ WithinUnit t.cfg.num ((driveCascade k t).loop k .cur).out0 → Ends s (driveCascade k t) .outOfRange 0) := by
  rw [← inUnit_iff]
  simp only [driveCascade]
  split
  · next hin => exact ⟨fun _ => ⟨rfl, rfl, hh⟩, fun hout => absurd hin hout⟩
  · next hout => exact ⟨fun hin => absurd hin hout, fun _ => ends_respond hh fun _ => rfl⟩

theorem lt_nDev_of_at {s : State} (hinv : s.Inv) {call : Call} {x k n : Nat} {p : Point} (hat : At s call x p k n) :
    k < s.cfg.nDev :=
  ((seqOk_iff_of_busy hat).mp hinv.seq).1.1

/-- Settles O44, by the exchange that has succeeded: the refreshes of the current and the speed only go on, that of the position is
followed by the calculation, and the command ends the cycle. -/
theorem driveCycleStepsTheCascade : Obligations.DriveCycleStepsTheCascade := by
  intro s k n rest hinv hm hack
  let t := (s.begin rest).modDev k (settle s.cfg)
  refine ⟨fun x hx hat => ⟨_, step_s5_of_success hat hm hack, ?refresh⟩, fun hat => ⟨_, step_s5_of_success hat hm hack, ?third⟩,
    fun hat => ⟨_, step_s5_of_success hat hm hack, ?last⟩⟩
  case refresh =>
    rw [afterSuccess_drive_refresh hx]
    exact ⟨rfl, rfl, rfl, rfl⟩
  case third =>
    have hk := lt_nDev_of_at hinv hat
    obtain ⟨hdev, -⟩ := dev_of_modify (s := s) (t := t) (hinv.nDevs ▸ hk) rfl rfl
    obtain ⟨hcas, hother⟩ := driveCascade_cascade (s := t) (k := k) (hinv.nCascades ▸ hk)
    obtain ⟨hin, hout⟩ := driveCascade_goes (s := s) (t := t) rfl k
    rw [hdev, pushFeedback_settle] at hcas
    rw [afterSuccess_drive_third]
    refine ⟨hother, ?_, hin, hout⟩
    rw [hcas]
    exact calculate_chained (nan_isNaN t.draws) s.cfg.num _
  case last =>
    rw [afterSuccess_drive_last]
    exact ⟨rfl, ends_success rfl _⟩

end Sys2Proof.Machine
end

section
/-! PROOFS. Where a step goes on and where it is refused, and the statements of the family 60_exceptions.md. -/

namespace Sys2Proof.Machine

open Sys2Proof.Spec

/-! ### A command presented while busy (R244) -/

/-- Settles O10: the state that follows is that of the step's start, in which only the word is taken from the port. -/
theorem commandWhileBusyHasNoEffect : Obligations.CommandWhileBusyHasNoEffect := by
  intro s cmd rest hbusy hi
  rw [step_command hi]
  obtain ⟨-, he⟩ | ⟨hready, -⟩ | ⟨hready, -⟩ := acceptCommand_cases cmd (s.begin rest)
  · exact ⟨_, he, ⟨rfl, rfl⟩, rfl, rfl, rfl, rfl, rfl, rfl, rfl⟩
  · exact absurd hready hbusy
  · exact absurd hready hbusy

/-! ### The notifier's step (R237) -/

/-- When an arrival event is no frame (R237, U13). -/
theorem Arrival.isFrame_eq_false_iff (a : Arrival) (c : Cfg) : a.isFrame c = false ↔ 8 < a.dlc.toNat ∨ 2 ^ c.idW ≤ a.id := by
  rw [← Bool.not_eq_true, a.isFrame_iff, not_and_or, not_le, not_lt]

section

variable {s : State} {a : Arrival} {rest : List Input} (hi : s.inputs = .arrival a :: rest)

include hi

theorem step_arrival : step s = notify a (s.begin rest) := by simp only [step, hi]

theorem step_arrival_of_notAFrame (hno : a.isFrame s.cfg = false) : step s = .refused .arrivalNotAFrame := by
  rw [step_arrival hi]
  exact if_pos hno

/-- A frame of a device that is not in the registry is dropped. -/
theorem step_arrival_of_unknown (hframe : a.isFrame s.cfg = true) (hk : s.find a.id = none) :
    step s = .next ((s.begin rest).record (.arrival a)) := by
  have hk' : (s.begin rest).find a.id = none := hk
  simp only [step_arrival hi, notify, begin_cfg, hframe, hk', Bool.true_eq_false, if_false]

end

/-- Settles O45: an event that is no frame is refused; a frame is dropped, or enters the slot of the device that `Find` names. -/
theorem arrivalWritesOnlySlotAndFresh : Obligations.ArrivalWritesOnlySlotAndFresh := by
  intro s a rest hlen hi
  refine ⟨fun hno => step_arrival_of_notAFrame hi ((a.isFrame_eq_false_iff s.cfg).mpr hno), fun hdlc hid => ?_⟩
  have hframe : a.isFrame s.cfg = true := (a.isFrame_iff s.cfg).mpr ⟨hdlc, hid⟩
  cases hfind : s.find a.id with
  | none => exact ⟨_, step_arrival_of_unknown hi hframe hfind, rfl, rfl, rfl, ⟨rfl, rfl, rfl, rfl⟩, fun _ => ⟨rfl, rfl⟩, nofun⟩
  | some k =>
    have hk : k < s.devs.length := hlen ▸ (find_some hfind).1
    refine ⟨_, step_arrival_of_device hi hframe hfind, rfl, rfl, rfl, ⟨rfl, rfl, rfl, rfl⟩, nofun, ?_⟩
    rintro _ ⟨⟩
    exact onlyRecord_of_modify (f := receive a) hk rfl rfl rfl

/-! ### Where a step goes on (R241) -/

/-- Every shape of a meaning goes on to a next state. -/
theorem ExecShape.goes_on {s : State} {o : Out} (h : ExecShape s o) : ∃ t, o = .next t := by
  cases h with
  | ends | writes | starts => exact ⟨_, rfl⟩
  | decodes f =>
    obtain ⟨k, -, he⟩ | ⟨-, he⟩ := decodeInto_cases f s
    · exact ⟨_, he⟩
    · exact ⟨_, he⟩

theorem exec_goes_on (i : Instr) (s : State) : ∃ t, exec i s = .next t := (exec_shape i s).goes_on

theorem decodeStep_goes_on (call : Call) (x k n : Nat) (s : State) : ∃ t, decodeStep call x k n s = .next t := by
  unfold decodeStep
  cases decodeFrame s.cfg (s.dev k).rx.dlc (s.dev k).rx.d with
  | error e => exact ⟨_, rfl⟩
  | ok i =>
    obtain ⟨t, ht⟩ := exec_goes_on i s
    simp only [ht]
    exact ⟨_, rfl⟩

theorem executorStep_goes_on (s : State) : ∃ t, executorStep s = .next t := by
  unfold executorStep
  cases s.seq with
  | ready => exact ⟨_, rfl⟩
  | busy call x p k n =>
    cases p with
    | s4 => exact decodeStep_goes_on call x k n s
    | _ => exact ⟨_, rfl⟩

theorem acceptCommand_goes_on (cmd : BitVec 128) (s : State) : ∃ t, acceptCommand cmd s = .next t := by
  obtain ⟨-, he⟩ | ⟨-, i, -, he⟩ | ⟨-, -, he⟩ := acceptCommand_cases cmd s <;> rw [he]
  · exact ⟨_, rfl⟩
  · exact exec_goes_on i _
  · exact ⟨_, rfl⟩

/-- What a step can answer, by the agent that moves (R66): a next state, but for an arrival that is no frame. -/
theorem step_goes_on_or_refused (s : State) : (∃ t, step s = .next t) ∨
    (step s = .refused .arrivalNotAFrame ∧ ∃ a rest, s.inputs = .arrival a :: rest ∧ a.isFrame s.cfg = false) := by
  cases hi : s.inputs with
  | nil => exact .inl (step_of_executorMoves (.inr ⟨hi, rfl⟩) ▸ executorStep_goes_on _)
  | cons input rest =>
    cases input with
    | tick => exact .inl (step_of_executorMoves (.inl hi) ▸ executorStep_goes_on _)
    | command cmd => exact .inl (step_command hi ▸ acceptCommand_goes_on cmd _)
    | reset => exact .inl ⟨(s.begin rest).applyReset, by simp only [step, hi]⟩
    | arrival a =>
      obtain ⟨hno, he⟩ | ⟨-, -, he⟩ | ⟨-, k, -, he⟩ := notify_cases a (s.begin rest) <;> rw [step_arrival hi, he]
      · exact .inr ⟨rfl, a, rest, rfl, hno⟩
      · exact .inl ⟨_, rfl⟩
      · exact .inl ⟨_, rfl⟩

/-- Settles O11: a step that goes on is neither fault nor refusal, and the one that does not is refused for its arrival. -/
theorem onlyAnArrivalThatIsNoFrameStopsAStep : Obligations.OnlyAnArrivalThatIsNoFrameStopsAStep := by
  intro s
  simp only [← Arrival.isFrame_eq_false_iff]
  obtain ⟨t, ht⟩ | ⟨hstep, hno⟩ := step_goes_on_or_refused s
  · rw [ht]
    refine ⟨nofun, fun r => ⟨nofun, ?_⟩⟩
    rintro ⟨-, a, rest, hi, hno⟩
    exact nomatch ht.symm.trans (step_arrival_of_notAFrame hi hno)
  · rw [hstep]
    refine ⟨nofun, fun r => ⟨?_, ?_⟩⟩
    · rintro ⟨⟩
      exact ⟨rfl, hno⟩
    · rintro ⟨rfl, -⟩
      rfl

end Sys2Proof.Machine
end

section
/-! PROOFS. A reset event, a bound on the steps that a command in progress still takes, and the statements of the family
70_reset_and_hazards.md. -/

namespace Sys2Proof.Machine

open Sys2Proof.Spec

/-! ### A reset event (R260, R261) -/

theorem step_reset {s : State} {rest : List Input} (hi : s.inputs = .reset :: rest) :
    step s = .next (s.begin rest).applyReset := by
  simp only [step, hi]

/-- Settles O3: the state that follows is the reset one of the same configuration, with what stands at the ports. -/
theorem resetStepRestoresEveryRegister : Obligations.ResetStepRestoresEveryRegister :=
  fun _ _ hi => ⟨_, step_reset hi, ⟨rfl, rfl, rfl, rfl⟩, rfl, rfl, rfl, rfl, rfl⟩

/-! ### The steps that a command still takes (R67, R281) -/

/-- How many steps of the executor, at most, still belong to an exchange that stands at a point, where a wait has `w` polls and `n`
of them are made. -/
def Point.stepsLeft (w n : Nat) : Point → Nat
  | .s1 => w + 5
  | .s2 => w + 4
  | .s3 => w + 3
  | .poll => w - n + 2
  | .s4 => 2
  | .s5 => 1
  | .s5a => 1

/-- The same for the command in progress: the later exchanges take `w + 5` steps each. -/
def Seq.stepsLeft (w : Nat) : Seq → Nat
  | .ready => 0
  | .busy call x p _ n => (call.exchanges - (x + 1)) * (w + 5) + p.stepsLeft w n

theorem Point.stepsLeft_pos (w n : Nat) (p : Point) : 0 < p.stepsLeft w n := by
  cases p <;> simp only [Point.stepsLeft] <;> omega

theorem Point.stepsLeft_le (w n : Nat) (p : Point) : p.stepsLeft w n ≤ w + 5 := by
  cases p <;> simp only [Point.stepsLeft] <;> omega

theorem Call.exchanges_le (call : Call) : call.exchanges ≤ 4 := by
  cases call <;> simp only [Call.exchanges] <;> omega

theorem Seq.stepsLeft_pos (w : Nat) {q : Seq} (hq : q ≠ .ready) : 0 < q.stepsLeft w := by
  cases q with
  | ready => exact absurd rfl hq
  | busy call x p k n => exact Nat.add_pos_right _ (p.stepsLeft_pos w n)

/-- A command makes at most four exchanges. -/
theorem Seq.stepsLeft_le (w : Nat) (q : Seq) : q.stepsLeft w ≤ 4 * (w + 5) := by
  cases q with
  | ready => exact Nat.zero_le _
  | busy call x p k n =>
    have hx : call.exchanges - (x + 1) ≤ 3 := by
      have := call.exchanges_le
      omega
    calc (call.exchanges - (x + 1)) * (w + 5) + p.stepsLeft w n
      _ ≤ 3 * (w + 5) + (w + 5) :=
        Nat.add_le_add (Nat.mul_le_mul_right _ hx) (p.stepsLeft_le w n)
      _ = 4 * (w + 5) := by omega

theorem Seq.stepsLeft_same_exchange {w n n' : Nat} {p p' : Point} (h : p'.stepsLeft w n' < p.stepsLeft w n) (call : Call)
    (x k : Nat) : (Seq.busy call x p' k n').stepsLeft w < (Seq.busy call x p k n).stepsLeft w :=
  Nat.add_lt_add_left h _

theorem Seq.stepsLeft_next_exchange (w n : Nat) (p : Point) {call : Call} {x : Nat} (hx : x + 1 < call.exchanges) (k : Nat) :
    (Seq.busy call (x + 1) .s1 k 0).stepsLeft w < (Seq.busy call x p k n).stepsLeft w := by
  have hsplit : call.exchanges - (x + 1) = call.exchanges - (x + 1 + 1) + 1 := by omega
  calc (call.exchanges - (x + 1 + 1)) * (w + 5) + (w + 5)
    _ = (call.exchanges - (x + 1)) * (w + 5) := by rw [hsplit, Nat.add_one_mul]
    _ < (call.exchanges - (x + 1)) * (w + 5) + p.stepsLeft w n := Nat.lt_add_of_pos_right (p.stepsLeft_pos w n)

/-- After a successful exchange the command ends or goes on to the very next one. -/
theorem afterSuccess_seq_next (call : Call) (x k : Nat) (s : State) :
    (afterSuccess call x k s).seq = .ready ∨ (afterSuccess call x k s).seq = .busy call (x + 1) .s1 k 0 := by
  cases call with
  | setMode m | setPower p =>
    simp only [afterSuccess]
    split
    · next hx => exact .inr (by rw [hx]; rfl)
    · split <;> exact .inl rfl
  | driveCycle =>
    simp only [afterSuccess]
    split
    · exact .inr rfl
    · split
      · next hx => exact hx ▸ driveCascade_seq k s
      · exact .inl rfl
  | _ => exact .inl rfl

theorem settleStep_seq_next (call : Call) (x k : Nat) (s : State) :
    (settleStep call x k s).seq = .ready ∨ (settleStep call x k s).seq = .busy call (x + 1) .s1 k 0 := by
  obtain ⟨-, he⟩ | ⟨-, he⟩ | ⟨-, he⟩ := settleStep_cases call x k s <;> rw [he]
  · exact afterSuccess_seq_next call x k _
  · exact .inl rfl
  · exact .inl rfl

/-- Every step of the executor brings the command in progress nearer to its end. -/
theorem ExecutorShape.stepsLeft_lt {s t : State} (h : ExecutorShape s t) (hs : s.Inv) (hbusy : s.seq ≠ .ready) :
    t.seq.stepsLeft s.cfg.timeoutIters < s.seq.stepsLeft s.cfg.timeoutIters := by
  have of_ready (hr : t.seq = .ready) : t.seq.stepsLeft s.cfg.timeoutIters < s.seq.stepsLeft s.cfg.timeoutIters :=
    hr ▸ s.seq.stepsLeft_pos s.cfg.timeoutIters hbusy
  have htok := (h.inv hs).seq
  cases h with
  | idle hq => exact absurd hq hbusy
  | @sample call x k n hq =>
    obtain ⟨-, he⟩ | ⟨-, he⟩ := sampleBus_cases call x k s
    · rw [he, hq]
      exact Seq.stepsLeft_same_exchange (Nat.lt_succ_self _) call x k
    · exact of_ready (he ▸ rfl)
  | @clear call x k n hq =>
    rw [hq]
    exact Seq.stepsLeft_same_exchange (Nat.lt_succ_self _) call x k
  | @transmit call x k n hq =>
    obtain ⟨-, ht, -⟩ | ⟨-, ht, -⟩ := transmitStep_cases call x k s
    · rw [ht, hq]
      exact Seq.stepsLeft_same_exchange (Nat.lt_succ_self _) call x k
    · exact of_ready ht
  | @poll call x k n hq =>
    obtain ⟨-, -, hpoll⟩ := (seqOk_iff_of_busy hq).mp hs.seq
    have hn := hpoll rfl
    rw [hq]
    obtain ⟨-, he⟩ | ⟨-, -, he⟩ | ⟨-, -, he⟩ := pollStep_cases call x k n s <;> rw [he] <;>
      exact Seq.stepsLeft_same_exchange (by simp only [Point.stepsLeft]; omega) call x k
  | @decode call x k n f hq hf =>
    rw [hq]
    exact Seq.stepsLeft_same_exchange (Nat.lt_succ_self _) call x k
  | @settle call x k n hq =>
    obtain ht | ht := settleStep_seq_next call x k s
    · exact of_ready ht
    · obtain ⟨⟨-, hx, -⟩, -⟩ := (seqOk_iff_of_busy ht).mp htok
      rw [ht, hq]
      exact Seq.stepsLeft_next_exchange _ n .s5 hx k
  | exhaust hq => exact of_ready rfl

/-! ### The inputs still to come -/

@[simp] theorem sampleBus_inputs (call : Call) (x k : Nat) (s : State) : (sampleBus call x k s).inputs = s.inputs := by
  obtain ⟨-, he⟩ | ⟨-, he⟩ := sampleBus_cases call x k s <;> simp [he]

@[simp] theorem pollStep_inputs (call : Call) (x k n : Nat) (s : State) : (pollStep call x k n s).inputs = s.inputs := by
  obtain ⟨-, he⟩ | ⟨-, -, he⟩ | ⟨-, -, he⟩ := pollStep_cases call x k n s <;> simp [he]

@[simp] theorem transmitStep_inputs (call : Call) (x k : Nat) (s : State) : (transmitStep call x k s).inputs = s.inputs := by
  obtain ⟨-, -, hi⟩ := transmitStep_ports call x k s
  exact hi

@[simp] theorem settleStep_inputs (call : Call) (x k : Nat) (s : State) : (settleStep call x k s).inputs = s.inputs := by
  obtain ⟨-, hi, -⟩ := settleStep_ports call x k s
  exact hi

theorem ExecutorShape.inputs {s t : State} (h : ExecutorShape s t) : t.inputs = s.inputs := by
  cases h with
  | idle | clear | decode | exhaust => rfl
  | _ => simp

theorem ExecShape.inputs {s t : State} {o : Out} (h : ExecShape s o) (ho : o = .next t) : t.inputs = s.inputs := by
  cases h with
  | ends | writes => cases ho; rfl
  | starts => cases ho; simp
  | decodes f => obtain ⟨k, -, he⟩ | ⟨-, he⟩ := decodeInto_cases f s <;> cases he.symm.trans ho <;> rfl

theorem acceptCommand_inputs {cmd : BitVec 128} {s t : State} (h : acceptCommand cmd s = .next t) : t.inputs = s.inputs := by
  obtain ⟨-, he⟩ | ⟨-, i, -, he⟩ | ⟨-, -, he⟩ := acceptCommand_cases cmd s <;> rw [he] at h
  · cases h; rfl
  · exact (exec_shape i (s.record (.command cmd))).inputs h
  · cases h; rfl

theorem notify_inputs {a : Arrival} {s t : State} (h : notify a s = .next t) : t.inputs = s.inputs := by
  obtain ⟨-, he⟩ | ⟨-, -, he⟩ | ⟨-, k, -, he⟩ := notify_cases a s <;> rw [he] at h <;> cases h <;> rfl

/-- A step takes one input from the ports, if one is there, and no step adds any. -/
theorem step_inputs {s t : State} (h : step s = .next t) : t.inputs = s.inputs.tail := by
  cases step_shape h with
  | executor hi he =>
    rw [he.inputs]
    obtain hi | ⟨hi, rfl⟩ := hi <;> rw [hi] <;> rfl
  | command hi he => rw [acceptCommand_inputs he, hi]; rfl
  | arrival hi he => rw [notify_inputs he, hi]; rfl
  | reset hi => rw [hi]; rfl

/-- Every arrival still to come is a frame (R237, U13). -/
def State.FramesToCome (s : State) : Prop := ∀ a, .arrival a ∈ s.inputs → a.dlc.toNat ≤ 8 ∧ a.id < 2 ^ s.cfg.idW

namespace State.FramesToCome

variable {s t : State}

theorem of_step (hf : s.FramesToCome) (h : step s = .next t) : t.FramesToCome := by
  unfold State.FramesToCome
  rw [noStepChangesTheConfiguration s t h, step_inputs h]
  exact fun a ha => hf a (List.mem_of_mem_tail ha)

theorem goes_on (hf : s.FramesToCome) : ∃ t, step s = .next t := by
  obtain h | ⟨-, a, rest, hi, hno⟩ := step_goes_on_or_refused s
  · exact h
  · have hframe : a.isFrame s.cfg = true := (a.isFrame_iff s.cfg).mpr (hf a (by simp [hi]))
    exact absurd (hno.symm.trans hframe) Bool.false_ne_true

end State.FramesToCome

/-! ### The end of a command (R281) -/

/-- How many of the steps still to come are not the executor's. -/
def othersMoves (inputs : List Input) : Nat := (inputs.filter (fun i => decide (i ≠ .tick))).length

theorem othersMoves_lt_cons {i : Input} (hi : i ≠ .tick) (rest : List Input) : othersMoves rest < othersMoves (i :: rest) := by
  simp [othersMoves, hi]

theorem othersMoves_of_executorMoves {s : State} {rest : List Input} (h : ExecutorMoves s rest) :
    othersMoves s.inputs = othersMoves rest := by
  obtain hi | ⟨hi, rfl⟩ := h <;> rw [hi]
  rfl

/-- A bound on the steps until the executor is ready: those of the others, and its own. -/
def State.stepsLeft (s : State) : Nat := othersMoves s.inputs + s.seq.stepsLeft s.cfg.timeoutIters

/-- Whoever moves while a command runs, the bound decreases: the executor goes on in the command, an arrival or a word at the host's
port leaves the sequencer alone, and reset ends the command. -/
theorem step_stepsLeft_lt {s t : State} (hs : s.Inv) (hbusy : s.seq ≠ .ready) (h : step s = .next t) :
    t.stepsLeft < s.stepsLeft := by
  unfold State.stepsLeft
  rw [noStepChangesTheConfiguration s t h]
  cases step_shape h with
  | @executor rest _ hi he =>
    have hbegin : (s.begin rest).Inv := hs.of_sameCore rfl rfl rfl rfl
    rw [he.inputs, begin_inputs, othersMoves_of_executorMoves hi]
    exact Nat.add_lt_add_left (he.stepsLeft_lt hbegin hbusy) _
  | @command cmd rest _ hi he =>
    obtain ⟨-, hsame⟩ | ⟨hready, -⟩ | ⟨hready, -⟩ := acceptCommand_cases cmd (s.begin rest)
    · cases hsame.symm.trans he
      rw [hi]
      exact Nat.add_lt_add_right (othersMoves_lt_cons (by simp) rest) _
    · exact absurd hready hbusy
    · exact absurd hready hbusy
  | @arrival a rest _ hi he =>
    obtain ⟨-, hseq, -⟩ := notify_frame he
    rw [notify_inputs he, hi, hseq]
    exact Nat.add_lt_add_right (othersMoves_lt_cons (by simp) rest) _
  | @reset rest hi =>
    rw [hi]
    exact Nat.add_lt_add_of_lt_of_le (othersMoves_lt_cons (by simp) rest) (Nat.zero_le _)

/-- Where every arrival is a frame, the executor is ready within the bound. -/
theorem reaches_ready (s : State) (hs : s.Inv) (hf : s.FramesToCome) :
    ∃ m, m ≤ s.stepsLeft ∧ Reaches m s (fun t => t.seq = .ready) := by
  by_cases hq : s.seq = .ready
  · exact ⟨0, Nat.zero_le _, .zero hq⟩
  · obtain ⟨t, ht⟩ := hf.goes_on
    have hlt := step_stepsLeft_lt hs hq ht
    obtain ⟨m, hm, hreach⟩ := reaches_ready t (everyStepKeepsTheInvariant s t hs ht) (hf.of_step ht)
    exact ⟨m + 1, by omega, hreach.of_step ht⟩
termination_by s.stepsLeft

/-- Settles O53: the bound is at most four exchanges beside the steps of the others. -/
theorem everyCommandEnds : Obligations.EveryCommandEnds := by
  intro s hs hf
  obtain ⟨m, hm, hreach⟩ := reaches_ready s hs hf
  exact ⟨m, hm.trans (Nat.add_le_add_left (s.seq.stepsLeft_le _) _), hreach⟩

end Sys2Proof.Machine
end
